-- ==== Sys2Proof/Word.lean ====
section
/-! DEFINITION. The word types (00_scope.md R11) and the names an operand field of an encoding can denote
(30_encoding.md R203-R208, R210, R225). -/

namespace Sys2Proof

/-- `u8` of R11. -/
abbrev Byte := BitVec 8

/-- `u16` of R11: addresses, SP, PC and register pairs. -/
abbrev Word := BitVec 16

/-- A 2-bit pixel value: a raw colour index or a shade, 0..3 (60_exceptions.md R552, R555). -/
abbrev Shade := BitVec 2

/-- The seven registers an 8-bit operand field can name (R203 without its code 6). -/
inductive Reg8 where
  | b | c | d | e | h | l | a
deriving DecidableEq, Repr

/-- The operand table `R8` of R203: a register, or the memory byte at address HL (code 6). -/
inductive R8 where
  | reg (r : Reg8)
  | atHl
deriving DecidableEq, Repr

/-- The operand table `R16` of R204. -/
inductive R16 where
  | bc | de | hl | sp
deriving DecidableEq, Repr

/-- The operand table `R16STK` of R205: code 3 names AF here. -/
inductive R16Stk where
  | bc | de | hl | af
deriving DecidableEq, Repr

/-- The operand table `R16MEM` of R206. -/
inductive R16Mem where
  | bc | de | hlInc | hlDec
deriving DecidableEq, Repr

/-- The condition table `COND` of R207. -/
inductive Cond where
  | nz | z | nc | c
deriving DecidableEq, Repr

/-- The ALU operation field of R225. -/
inductive AluOp where
  | add | adc | sub | sbc | and | xor | or | cp
deriving DecidableEq, Repr

/-- The shift and rotate field of R210. -/
inductive RotOp where
  | rlc | rrc | rl | rr | sla | sra | swap | srl
deriving DecidableEq, Repr

/-- The eight block-0 operations on A and F alone, by `y` (R211, z = 7). -/
inductive AccOp where
  | rlca | rrca | rla | rra | daa | cpl | scf | ccf
deriving DecidableEq, Repr

/-- A bit number of BIT, RES and SET (R202 `cb_bit`). -/
inductive BitIx where
  | b0 | b1 | b2 | b3 | b4 | b5 | b6 | b7
deriving DecidableEq, Repr

/-- An RST target (R208). -/
inductive RstTarget where
  | t00 | t08 | t10 | t18 | t20 | t28 | t30 | t38
deriving DecidableEq, Repr

end Sys2Proof
end

