-- ==== Sys2Proof/Config.lean ====
section
/-! DEFINITION. The open parameters of the model (00_scope.md R9). The spec leaves no result value open after an
instruction (93_implementation_defined.md section 1), so there is no free value here. RTC_ADVANCE is a host action
(Machine/HostApi.lean). -/

namespace Sys2Proof

/-- BOOT_MODE (R9, 70_reset_and_hazards.md R701). -/
inductive BootMode where
  | bootRom
  | skipBoot
deriving DecidableEq, Repr

/-- STOP_MODE (R9, 46_system.md R462). -/
inductive StopMode where
  | refuse
  | nop2
deriving DecidableEq, Repr

/-- POWER_ON_REGS (R9, 10_state.md R59), with the spec's default 0x00 each. -/
structure PowerOnRegs where
  a : Byte := 0
  f : Byte := 0
  b : Byte := 0
  c : Byte := 0
  d : Byte := 0
  e : Byte := 0
  h : Byte := 0
  l : Byte := 0
  sp : Word := 0
deriving DecidableEq, Repr

/-- POWER_ON_MEM (R9, R702), with the spec's default: a byte a list does not reach is 0x00 (log 4). -/
structure PowerOnMem where
  vram : List Byte := []
  wram : List Byte := []
  oam  : List Byte := []
  io   : List Byte := []
  hram : List Byte := []
  ie   : Byte := 0
deriving DecidableEq, Repr

/-- The arguments of creation (R9, R700). -/
structure Params where
  cartRom     : List Byte
  bootMode    : BootMode
  bootRom     : List Byte := []
  powerOnRegs : PowerOnRegs := {}
  powerOnMem  : PowerOnMem := {}
  cartRamInit : List Byte := []
  stopMode    : StopMode := .refuse
deriving DecidableEq, Repr

/-- The conventional image of 95_test_vectors.md: 32 KiB of zero bytes, a no-banking cartridge with no RAM (log 2). -/
def blankImage : List Byte := List.replicate 0x8000 0

/-- The parameters `State.reset` is created from (logs 1, 2 and 3). -/
def resetParams : Params :=
  { cartRom := blankImage, bootMode := .skipBoot, stopMode := .nop2 }

end Sys2Proof
end

