-- ==== Sys2Proof/Machine/State.lean ====
section
/-! DEFINITION. The machine's state as plain data (10_state.md, 20_memory.md R130-R160), the reasons a step can stop,
and the state after reset (70_reset_and_hazards.md R700-R702). -/

namespace Sys2Proof.Machine

/-- A memory array: (key, byte) pairs in the canonical form `Memory.wf` of Machine/Memory.lean. A key is the array's own
offset, as in 10_state.md R42. -/
abbrev Memory := List Host.Cell

/-- The CPU (10_state.md R30-R35, R38-R40). -/
structure Cpu where
  a : Byte
  f : Byte
  b : Byte
  c : Byte
  d : Byte
  e : Byte
  h : Byte
  l : Byte
  sp : Word
  pc : Word
  ime : Bool
  eiPending : Bool
  halted : Bool
  locked : Bool
deriving DecidableEq, Repr

/-- The clock registers of Controller C (20_memory.md R148): seconds, minutes, hours, day low, day high. -/
structure Rtc where
  seconds : Byte
  minutes : Byte
  hours : Byte
  dayLow : Byte
  dayHigh : Byte
deriving DecidableEq, Repr

/-- Controller A (R139). -/
structure MbcA where
  ramEnable : Bool
  bank1 : BitVec 5
  bank2 : BitVec 2
  mode : Bool
deriving DecidableEq, Repr

/-- Controller B (R144). -/
structure MbcB where
  ramEnable : Bool
  bank : BitVec 4
deriving DecidableEq, Repr

/-- Controller C (R148). -/
structure MbcC where
  ramEnable : Bool
  bank : BitVec 7
  sel : Byte
  latchLast : Byte
  hasRtc : Bool
  rtcLive : Rtc
  rtcLatched : Rtc
deriving DecidableEq, Repr

/-- The type tag of R131 with the registers of the variant it names. -/
inductive Mbc where
  | none
  | a (m : MbcA)
  | b (m : MbcB)
  | c (m : MbcC)
  | unknown
deriving DecidableEq, Repr

/-- The cartridge (10_state.md R43). `romLen` is `len(rom_bytes)`, `romSize` the size the header declares (R132),
`ramLen` the RAM size (R133). -/
structure Cart where
  rom : Memory
  romLen : Nat
  romSize : Nat
  ram : Memory
  ramLen : Nat
  mbc : Mbc
deriving DecidableEq, Repr

/-- The PPU mode, numbered as STAT numbers it (10_state.md R46, R55). -/
inductive PpuMode where
  | hblank
  | vblank
  | oamScan
  | pixelDraw
deriving DecidableEq, Repr

/-- The PPU registers (R44-R49) and its hidden state (R55). `stat` holds STAT's stored bits 6..0; `sprite_count` is the
length of `spriteList` (log 15). -/
structure Ppu where
  lcdc : Byte
  stat : Byte
  scy : Byte
  scx : Byte
  ly : Byte
  lyc : Byte
  bgp : Byte
  obp0 : Byte
  obp1 : Byte
  wy : Byte
  wx : Byte
  mode : PpuMode
  dot : Nat
  spriteList : List Nat
  frameReady : Bool
  framebuffer : List (List Shade)
  bgIndexLine : List Shade
deriving DecidableEq, Repr

/-- The timer registers (R50, R51) and its hidden counters (R52). -/
structure Timer where
  div : Byte
  tima : Byte
  tma : Byte
  tac : Byte
  divCounter : Nat
  timaCounter : Nat
deriving DecidableEq, Repr

/-- The joypad: P1's stored select bits (R53) and the two active-low latches (R54). -/
structure Joypad where
  p1 : Byte
  action : BitVec 4
  direction : BitVec 4
deriving DecidableEq, Repr

/-- The whole machine. INVENTORY.md lists each field with the rule that names it and its reset value. -/
structure State where
  cpu : Cpu
  ieReg : Byte
  ifReg : Byte
  bootMapped : Bool
  bootRom : Memory
  vram : Memory
  wram : Memory
  oam : Memory
  io : Memory
  hram : Memory
  sb : Byte
  sc : Byte
  dma : Byte
  bootOff : Byte
  cart : Cart
  ppu : Ppu
  timer : Timer
  joypad : Joypad
  stopMode : StopMode
  cycles : Nat
deriving DecidableEq, Repr

/-- Reasons the machine faults: there is none. "The CPU has no fault outcome" (40_step.md R250) and no address or opcode
faults (60_exceptions.md R500), so this type has no constructor. -/
inductive Fault where
deriving DecidableEq, Repr

/-- Reasons a step is refused. -/
inductive Refusal where
  /-- Raised by an arm of `exec` for an instruction that has no meaning yet; no arm raises it now. Safe: the machine
  stops where the hardware goes on. -/
  | notModelled (mnemonic : String)
  /-- Raised by `execStop` when `stopMode` is `refuse`: "The step refuses (40_step.md rule R250) once both bytes are
  fetched" (46_system.md R462). Safe: no claim can step past it. -/
  | stopRefused
deriving DecidableEq, Repr

/-- The CPU at reset with BOOT_MODE = skip_boot (10_state.md R59). -/
def Cpu.reset : Cpu :=
  { a := 0x01, f := 0xB0, b := 0x00, c := 0x13, d := 0x00, e := 0xD8, h := 0x01, l := 0x4D
    sp := 0xFFFE, pc := 0x0100, ime := false, eiPending := false, halted := false, locked := false }

/-- The PPU at reset with BOOT_MODE = skip_boot (R55, R60, R61). -/
def Ppu.reset : Ppu :=
  { lcdc := 0x91, stat := 0x06, scy := 0, scx := 0, ly := 0, lyc := 0, bgp := 0xFC, obp0 := 0, obp1 := 0
    wy := 0, wx := 0, mode := .oamScan, dot := 0, spriteList := [], frameReady := false
    framebuffer := List.replicate 144 (List.replicate 160 0), bgIndexLine := List.replicate 160 0 }

/-- The timer at reset with BOOT_MODE = skip_boot (R52, R60, R61). -/
def Timer.reset : Timer :=
  { div := 0, tima := 0, tma := 0, tac := 0xF8, divCounter := 0, timaCounter := 0 }

/-- The joypad at reset (R54, R60, R61). -/
def Joypad.reset : Joypad := { p1 := 0, action := 0xF, direction := 0xF }

/-- The cartridge created from the conventional 32 KiB zero image (20_memory.md R130-R133; log 2). -/
def Cart.reset : Cart :=
  { rom := [], romLen := 0x8000, romSize := 0x8000, ram := [], ramLen := 0, mbc := .none }

/-- The machine right after creation with `resetParams` (70_reset_and_hazards.md R700): BOOT_MODE = skip_boot (log 1),
the conventional zero image (log 2), STOP_MODE = nop2 (log 3), no memory byte listed (log 4). -/
def State.reset : State :=
  { cpu := Cpu.reset, ieReg := 0x00, ifReg := 0xE1, bootMapped := false, bootRom := []
    vram := [], wram := [], oam := [], io := [], hram := []
    sb := 0x00, sc := 0x7E, dma := 0x00, bootOff := 0x00
    cart := Cart.reset, ppu := Ppu.reset, timer := Timer.reset, joypad := Joypad.reset
    stopMode := .nop2, cycles := 0 }

end Sys2Proof.Machine
end

