-- ==== Sys2Proof/Machine/Memory.lean ====
section
/-! DEFINITION. Memory arrays as sparse lists in one canonical form (10_state.md R42, 70_reset_and_hazards.md R702). -/

namespace Sys2Proof.Machine

/-- What an unlisted key reads as: POWER_ON_MEM's and CART_RAM_INIT's default (R9, R702; log 4). -/
def blank : Byte := 0x00

/-- The canonical form: keys strictly rising, no byte equal to `blank`. -/
abbrev Memory.wf (m : Memory) : Prop :=
  List.Pairwise (fun x y => x.1 < y.1) m ∧ ∀ c ∈ m, c.2 ≠ blank

/-- Every listed key lies below `n`. -/
abbrev Memory.within (m : Memory) (n : Nat) : Prop := ∀ c ∈ m, c.1 < n

/-- The byte at key `k`. -/
def Memory.read : Memory → Nat → Byte
  | [], _ => blank
  | (i, w) :: t, k => if i = k then w else Memory.read t k

/-- `m` with byte `v` at key `k`, canonical if `m` is. -/
def Memory.write : Memory → Nat → Byte → Memory
  | [], k, v => if v = blank then [] else [(k, v)]
  | (i, w) :: t, k, v =>
    if k < i then (if v = blank then (i, w) :: t else (k, v) :: (i, w) :: t)
    else if k = i then (if v = blank then t else (k, v) :: t)
    else (i, w) :: Memory.write t k v

/-- The memory whose key `k + j` holds the j-th byte of a list. -/
def Memory.ofBytes : Nat → List Byte → Memory
  | _, [] => []
  | k, v :: t => if v = blank then Memory.ofBytes (k + 1) t else (k, v) :: Memory.ofBytes (k + 1) t

end Sys2Proof.Machine
end

