-- ==== Sys2Proof/Machine/Cart.lean ====
section
/-! DEFINITION. The cartridge: ROM and RAM primitives, the five variants' reads and writes (20_memory.md R134-R160), and
the header decode (R131-R133). Addresses are bus addresses as numbers, in 0x0000-0x7FFF or 0xA000-0xBFFF (R137). -/

namespace Sys2Proof.Machine

/-- `rom_byte(off)` (R135). -/
def romByte (c : Cart) (off : Nat) : Byte := if off < c.romLen then c.rom.read off else 0xFF

/-- `ram_get(off)` (R136). -/
def ramGet (c : Cart) (off : Nat) : Byte := if off < c.ramLen then c.ram.read off else 0xFF

/-- `ram_set(off, v)` (R136). -/
def ramSet (c : Cart) (off : Nat) (v : Byte) : Cart :=
  if off < c.ramLen then { c with ram := c.ram.write off v } else c

/-- `rom_mask` of R134, with `rom_banks` of R132: the number of 16 KiB banks. -/
def romMask (c : Cart) : Nat := c.romSize / 0x4000 - 1

/-- `ram_mask` of R134, with `ram_banks = max(1, ram_size / 8192)` of R133. -/
def ramMask (c : Cart) : Nat := max 1 (c.ramLen / 8192) - 1

/-- The value that enables RAM in every controller with a RAM-enable register (R140, R145, R149). -/
def enablesRam (v : Byte) : Bool := decide (v &&& 0x0F = 0x0A)

/-- The ROM offset that Controller A shows at address `n` below 0x8000 (R141, R142). -/
def mbcARomOffset (c : Cart) (m : MbcA) (n : Nat) : Nat :=
  if n < 0x4000 then
    (if m.mode then (m.bank2.toNat <<< 5) &&& romMask c else 0) * 0x4000 + n
  else ((m.bank2.toNat <<< 5 ||| m.bank1.toNat) &&& romMask c) * 0x4000 + (n - 0x4000)

/-- The RAM offset that Controller A shows at address `n` (R143). -/
def mbcARamOffset (c : Cart) (m : MbcA) (n : Nat) : Nat :=
  (if m.mode then m.bank2.toNat &&& ramMask c else 0) * 0x2000 + (n - 0xA000)

/-- Controller A register writes (R140). -/
def mbcAWriteReg (m : MbcA) (n : Nat) (v : Byte) : MbcA :=
  if n < 0x2000 then { m with ramEnable := enablesRam v }
  else if n < 0x4000 then
    { m with bank1 := if v.extractLsb' 0 5 = 0 then 1 else v.extractLsb' 0 5 }
  else if n < 0x6000 then { m with bank2 := v.extractLsb' 0 2 }
  else { m with mode := v.getLsbD 0 }

/-- The ROM offset that Controllers B and C show at address `n` below 0x8000 for the primary bank `bank` (R146, R151). -/
def bankedRomOffset (c : Cart) (bank n : Nat) : Nat :=
  if n < 0x4000 then n else (bank &&& romMask c) * 0x4000 + (n - 0x4000)

/-- Controller B register writes: address bit 8 selects the register (R145). -/
def mbcBWriteReg (m : MbcB) (n : Nat) (v : Byte) : MbcB :=
  if n < 0x4000 then
    if n.testBit 8 then { m with bank := if v.extractLsb' 0 4 = 0 then 1 else v.extractLsb' 0 4 }
    else { m with ramEnable := enablesRam v }
  else m

/-- Controller B's RAM offset: `(a - 0xA000) mod 512` (R147). -/
def mbcBRamOffset (n : Nat) : Nat := (n - 0xA000) % 512

/-- Controller C's RAM offset (R152, R153). -/
def mbcCRamOffset (c : Cart) (m : MbcC) (n : Nat) : Nat :=
  (m.sel.toNat &&& ramMask c) * 0x2000 + (n - 0xA000)

/-- The clock register that `sel` in 0x08..0x0C names. -/
def rtcGet (r : Rtc) (sel : Nat) : Byte :=
  match sel with
  | 0x08 => r.seconds
  | 0x09 => r.minutes
  | 0x0A => r.hours
  | 0x0B => r.dayLow
  | _ => r.dayHigh

/-- A write to the clock register that `sel` in 0x08..0x0C names, masked by RTC_MASK (R153). -/
def rtcSet (r : Rtc) (sel : Nat) (v : Byte) : Rtc :=
  match sel with
  | 0x08 => { r with seconds := v &&& 0x3F }
  | 0x09 => { r with minutes := v &&& 0x3F }
  | 0x0A => { r with hours := v &&& 0x1F }
  | 0x0B => { r with dayLow := v &&& 0xFF }
  | _ => { r with dayHigh := v &&& 0xC1 }

/-- Controller C's `latch(v)` (R150). -/
def mbcCLatch (m : MbcC) (v : Byte) : MbcC :=
  if m.latchLast = 0x00 ∧ v = 0x01 then { m with rtcLatched := m.rtcLive, latchLast := v }
  else { m with latchLast := v }

/-- Controller C register writes (R149). -/
def mbcCWriteReg (m : MbcC) (n : Nat) (v : Byte) : MbcC :=
  if n < 0x2000 then { m with ramEnable := enablesRam v }
  else if n < 0x4000 then
    { m with bank := if v.extractLsb' 0 7 = 0 then 1 else v.extractLsb' 0 7 }
  else if n < 0x6000 then { m with sel := v }
  else mbcCLatch m v

/-- `cart_read(a)` (R137): R138, R141-R143, R146, R147, R151, R152, R155. -/
def cartRead (c : Cart) (n : Nat) : Byte :=
  match c.mbc with
  | .none => if n < 0x8000 then romByte c n else ramGet c (n - 0xA000)
  | .a m =>
    if n < 0x8000 then romByte c (mbcARomOffset c m n)
    else if m.ramEnable then ramGet c (mbcARamOffset c m n) else 0xFF
  | .b m =>
    if n < 0x8000 then romByte c (bankedRomOffset c m.bank.toNat n)
    else if m.ramEnable then 0xF0 ||| (c.ram.read (mbcBRamOffset n) &&& 0x0F) else 0xFF
  | .c m =>
    if n < 0x8000 then romByte c (bankedRomOffset c m.bank.toNat n)
    else if m.ramEnable = false then 0xFF
    else if m.sel.toNat ≤ 0x03 then ramGet c (mbcCRamOffset c m n)
    else if 0x08 ≤ m.sel.toNat ∧ m.sel.toNat ≤ 0x0C ∧ m.hasRtc then rtcGet m.rtcLatched m.sel.toNat
    else 0xFF
  | .unknown => 0xFF

/-- `cart_write(a, v)` (R137): R138, R140, R143, R145, R147, R149, R153, R155. -/
def cartWrite (c : Cart) (n : Nat) (v : Byte) : Cart :=
  match c.mbc with
  | .none => if n < 0x8000 then c else ramSet c (n - 0xA000) v
  | .a m =>
    if n < 0x8000 then { c with mbc := .a (mbcAWriteReg m n v) }
    else if m.ramEnable then ramSet c (mbcARamOffset c m n) v else c
  | .b m =>
    if n < 0x8000 then { c with mbc := .b (mbcBWriteReg m n v) }
    else if m.ramEnable then { c with ram := c.ram.write (mbcBRamOffset n) (v &&& 0x0F) } else c
  | .c m =>
    if n < 0x8000 then { c with mbc := .c (mbcCWriteReg m n v) }
    else if m.ramEnable = false then c
    else if m.sel.toNat ≤ 0x03 then ramSet c (mbcCRamOffset c m n) v
    else if 0x08 ≤ m.sel.toNat ∧ m.sel.toNat ≤ 0x0C ∧ m.hasRtc then
      { c with mbc := .c { m with rtcLive := rtcSet m.rtcLive m.sel.toNat v } }
    else c
  | .unknown => c

/-- The controller registers at creation (R160). -/
def mbcAInit : MbcA := { ramEnable := false, bank1 := 1, bank2 := 0, mode := false }

/-- The controller registers at creation (R160). -/
def mbcBInit : MbcB := { ramEnable := false, bank := 1 }

/-- All five clock bytes 0x00 (R160). -/
def rtcInit : Rtc := { seconds := 0, minutes := 0, hours := 0, dayLow := 0, dayHigh := 0 }

/-- The controller registers at creation (R160). -/
def mbcCInit (hasRtc : Bool) : MbcC :=
  { ramEnable := false, bank := 1, sel := 0, latchLast := 0xFF, hasRtc := hasRtc
    rtcLive := rtcInit, rtcLatched := rtcInit }

/-- The variant of a cartridge type code, with its registers at creation (R131, R160). -/
def mbcOfType (code : Nat) : Mbc :=
  match code with
  | 0x00 | 0x08 | 0x09 => .none
  | 0x01 | 0x02 | 0x03 => .a mbcAInit
  | 0x05 | 0x06 => .b mbcBInit
  | 0x0F | 0x10 => .c (mbcCInit true)
  | 0x11 | 0x12 | 0x13 => .c (mbcCInit false)
  | _ => .unknown

/-- The ROM size of a ROM-size code, none where R132 makes the code a load error. -/
def romSizeOfCode (code : Nat) : Option Nat := if code ≤ 8 then some (0x8000 <<< code) else none

/-- The RAM size of a RAM-size code (R133). -/
def ramSizeOfCode (code : Nat) : Nat :=
  match code with
  | 0x01 => 2048
  | 0x02 => 8192
  | 0x03 => 32768
  | 0x04 => 131072
  | 0x05 => 65536
  | _ => 0

/-- The RAM size of a variant: Controller B has 512 whatever the code (R133, R144). -/
def ramSizeOf (m : Mbc) (code : Nat) : Nat :=
  match m with
  | .b _ => 512
  | _ => ramSizeOfCode code

end Sys2Proof.Machine
end

