-- ==== Sys2Proof/Machine/Joypad.lean ====
section
/-! DEFINITION. The joypad (60_exceptions.md R600-R604, 20_memory.md R114). -/

namespace Sys2Proof.Machine

/-- The button enumeration (R601). -/
inductive Button where
  | right | left | up | down | a | b | select | start
deriving DecidableEq, Repr

/-- The latch bit of a button, as a one-hot mask (R601). -/
def buttonMask : Button → BitVec 4
  | .right | .a => 0b0001
  | .left | .b => 0b0010
  | .up | .select => 0b0100
  | .down | .start => 0b1000

/-- Whether a button is in the direction latch (R601). -/
def isDirection : Button → Bool
  | .right | .left | .up | .down => true
  | .a | .b | .select | .start => false

/-- A press clears the button's bit (R603). -/
def latchPress (j : Joypad) (btn : Button) : Joypad :=
  if isDirection btn then { j with direction := j.direction &&& ~~~ buttonMask btn }
  else { j with action := j.action &&& ~~~ buttonMask btn }

/-- A release sets the button's bit (R604). -/
def latchRelease (j : Joypad) (btn : Button) : Joypad :=
  if isDirection btn then { j with direction := j.direction ||| buttonMask btn }
  else { j with action := j.action ||| buttonMask btn }

/-- `joypad_nibble()` (R602): the select bits are active low. -/
def joypadNibble (j : Joypad) : BitVec 4 :=
  (if j.p1.getLsbD 4 then 0xF else j.direction) &&& (if j.p1.getLsbD 5 then 0xF else j.action)

/-- A read of P1 (20_memory.md R114). -/
def readP1 (j : Joypad) : Byte := 0xC0 ||| (j.p1 &&& 0x30) ||| (joypadNibble j).setWidth 8

/-- A write of P1 stores the select bits only (20_memory.md R114). -/
def writeP1 (j : Joypad) (v : Byte) : Joypad := { j with p1 := v &&& 0x30 }

end Sys2Proof.Machine
end

