-- ==== Sys2Proof/Machine/Bus.lean ====
section
/-! DEFINITION. The bus: read decode, write decode, the I/O block and the DMA copy (20_memory.md R100-R120). -/

namespace Sys2Proof.Machine

/-- `io_read(0xFF00 + i)` for i in 0x00..0x7F (R112-R116). -/
def ioRead (s : State) (i : Nat) : Byte :=
  match i with
  | 0x00 => readP1 s.joypad
  | 0x01 => s.sb
  | 0x02 => s.sc
  | 0x04 => s.timer.div
  | 0x05 => s.timer.tima
  | 0x06 => s.timer.tma
  | 0x07 => s.timer.tac
  | 0x0F => s.ifReg
  | 0x40 => s.ppu.lcdc
  | 0x41 => 0x80 ||| s.ppu.stat
  | 0x42 => s.ppu.scy
  | 0x43 => s.ppu.scx
  | 0x44 => s.ppu.ly
  | 0x45 => s.ppu.lyc
  | 0x46 => s.dma
  | 0x47 => s.ppu.bgp
  | 0x48 => s.ppu.obp0
  | 0x49 => s.ppu.obp1
  | 0x4A => s.ppu.wy
  | 0x4B => s.ppu.wx
  | 0x50 => s.bootOff
  | _ => s.io.read i

/-- `MemRead(a, 1)` (R101). -/
def memRead (s : State) (a : Word) : Byte :=
  let n := a.toNat
  if n < 0x0100 ∧ s.bootMapped = true then s.bootRom.read n
  else if n < 0x8000 then cartRead s.cart n
  else if n < 0xA000 then s.vram.read (n - 0x8000)
  else if n < 0xC000 then cartRead s.cart n
  else if n < 0xE000 then s.wram.read (n - 0xC000)
  else if n < 0xFE00 then s.wram.read (n - 0xE000)
  else if n < 0xFEA0 then s.oam.read (n - 0xFE00)
  else if n < 0xFF00 then 0xFF
  else if n < 0xFF80 then ioRead s (n - 0xFF00)
  else if n < 0xFFFF then s.hram.read (n - 0xFF80)
  else s.ieReg

/-- One byte of the DMA copy: `oam[i] <- MemRead((v << 8) + i, 1)` (R117). -/
def dmaByte (v : Byte) (s : State) (i : Nat) : State :=
  { s with oam := s.oam.write i (memRead s (BitVec.ofNat 16 (v.toNat * 0x100 + i))) }

/-- The DMA copy: 160 bytes, ascending, each read through the bus decode of the state so far (R117). -/
def dmaCopy (s : State) (v : Byte) : State := (List.range 160).foldl (dmaByte v) s

/-- A CPU write to STAT: bits 6..3 only (R115). -/
def writeStat (p : Ppu) (v : Byte) : Ppu := { p with stat := (v &&& 0x78) ||| (p.stat &&& 0x07) }

/-- `io_write(0xFF00 + i, v)` for i in 0x00..0x7F (R112-R118). -/
def ioWrite (s : State) (i : Nat) (v : Byte) : State :=
  match i with
  | 0x00 => { s with joypad := writeP1 s.joypad v }
  | 0x01 => { s with sb := v }
  | 0x02 => { s with sc := v }
  | 0x04 => { s with timer := { s.timer with div := v } }
  | 0x05 => { s with timer := { s.timer with tima := v } }
  | 0x06 => { s with timer := { s.timer with tma := v } }
  | 0x07 => { s with timer := { s.timer with tac := v } }
  | 0x0F => { s with ifReg := v }
  | 0x40 => { s with ppu := { s.ppu with lcdc := v } }
  | 0x41 => { s with ppu := writeStat s.ppu v }
  | 0x42 => { s with ppu := { s.ppu with scy := v } }
  | 0x43 => { s with ppu := { s.ppu with scx := v } }
  | 0x44 => s
  | 0x45 => { s with ppu := { s.ppu with lyc := v } }
  | 0x46 => dmaCopy { s with dma := v } v
  | 0x47 => { s with ppu := { s.ppu with bgp := v } }
  | 0x48 => { s with ppu := { s.ppu with obp0 := v } }
  | 0x49 => { s with ppu := { s.ppu with obp1 := v } }
  | 0x4A => { s with ppu := { s.ppu with wy := v } }
  | 0x4B => { s with ppu := { s.ppu with wx := v } }
  | 0x50 => { s with bootOff := v, bootMapped := false }
  | _ => { s with io := s.io.write i v }

/-- `MemWrite(a, 1, v)` (R102). -/
def memWrite (s : State) (a : Word) (v : Byte) : State :=
  let n := a.toNat
  if n < 0x8000 then { s with cart := cartWrite s.cart n v }
  else if n < 0xA000 then { s with vram := s.vram.write (n - 0x8000) v }
  else if n < 0xC000 then { s with cart := cartWrite s.cart n v }
  else if n < 0xE000 then { s with wram := s.wram.write (n - 0xC000) v }
  else if n < 0xFE00 then { s with wram := s.wram.write (n - 0xE000) v }
  else if n < 0xFEA0 then { s with oam := s.oam.write (n - 0xFE00) v }
  else if n < 0xFF00 then s
  else if n < 0xFF80 then ioWrite s (n - 0xFF00) v
  else if n < 0xFFFF then { s with hram := s.hram.write (n - 0xFF80) v }
  else { s with ieReg := v }

end Sys2Proof.Machine
end

