-- ==== Sys2Proof/Machine/Bits.lean ====
section
/-! DEFINITION. Bit-field, byte-order and sign-extension helpers (00_scope.md R10, R11, R12). -/

namespace Sys2Proof.Machine

/-- `v[15:8]`. -/
def hiByte (v : Word) : Byte := v.extractLsb' 8 8

/-- `v[7:0]`. -/
def loByte (v : Word) : Byte := v.extractLsb' 0 8

/-- `concat(h, l)`: h in the high bits. -/
def concat (h l : Byte) : Word := h ++ l

/-- `sext_16(v)` of R11. -/
def sext16 (v : Byte) : Word := v.signExtend 16

/-- The number of bit `i` in 0..7 as an operand of BIT, RES and SET. -/
def bitNumber : BitIx → Nat
  | .b0 => 0 | .b1 => 1 | .b2 => 2 | .b3 => 3 | .b4 => 4 | .b5 => 5 | .b6 => 6 | .b7 => 7

/-- `ttt * 8` (30_encoding.md R208). -/
def rstAddress : RstTarget → Word
  | .t00 => 0x00 | .t08 => 0x08 | .t10 => 0x10 | .t18 => 0x18
  | .t20 => 0x20 | .t28 => 0x28 | .t30 => 0x30 | .t38 => 0x38

end Sys2Proof.Machine
end

