-- ==== Sys2Proof/Machine/Flags.lean ====
section
/-! DEFINITION. The flag byte and every result and flag computation of the spec (10_state.md R32, R33; 42_alu8.md;
43_alu16.md; 44_cb_prefix.md). Sums are over the unbounded integers and narrowed at the end (R11, R330). -/

namespace Sys2Proof.Machine

/-- The four flags Z, N, H, C (R32). -/
structure Flags where
  z : Bool
  n : Bool
  h : Bool
  c : Bool
deriving DecidableEq, Repr

/-- The flags held in bits 7..4 of F (R32). -/
def flagsOf (f : Byte) : Flags :=
  { z := f.getLsbD 7, n := f.getLsbD 6, h := f.getLsbD 5, c := f.getLsbD 4 }

/-- F with the given flags; bits 3..0 are 0 (R32, R33). -/
def flagByte (g : Flags) : Byte :=
  BitVec.ofBool g.z ++ BitVec.ofBool g.n ++ BitVec.ofBool g.h ++ BitVec.ofBool g.c ++ 0#4

/-- A flag as the number 0 or 1. -/
def bitNat (b : Bool) : Nat := if b then 1 else 0

/-- ADD and ADC (R331, R332): the sum of `a`, `v` and the carry-in `c`. -/
def addByte (a v : Byte) (c : Nat) : Byte × Flags :=
  let s := a.toNat + v.toNat + c
  let t := BitVec.ofNat 8 s
  (t, { z := decide (t = 0), n := false
        h := decide (a.toNat % 16 + v.toNat % 16 + c > 0xF), c := decide (s > 0xFF) })

/-- SUB, SBC and CP (R333, R334, R338): `a` less `v` less the borrow-in `c`. -/
def subByte (a v : Byte) (c : Nat) : Byte × Flags :=
  let t := BitVec.ofInt 8 ((a.toNat : Int) - v.toNat - c)
  (t, { z := decide (t = 0), n := true
        h := decide (a.toNat % 16 < v.toNat % 16 + c), c := decide (a.toNat < v.toNat + c) })

/-- The flags of AND, XOR and OR (R335-R337): Z from the result, H as given. -/
def logicFlags (t : Byte) (h : Bool) : Flags := { z := decide (t = 0), n := false, h := h, c := false }

/-- The result and flags of an ALU operation on A = `a`, operand `v` and flag C = `c` (R331-R338). The result of CP is
its difference, which its caller drops. -/
def aluResult (op : AluOp) (a v : Byte) (c : Bool) : Byte × Flags :=
  match op with
  | .add => addByte a v 0
  | .adc => addByte a v (bitNat c)
  | .sub => subByte a v 0
  | .sbc => subByte a v (bitNat c)
  | .and => (a &&& v, logicFlags (a &&& v) true)
  | .xor => (a ^^^ v, logicFlags (a ^^^ v) false)
  | .or => (a ||| v, logicFlags (a ||| v) false)
  | .cp => subByte a v 0

/-- INC of an 8-bit operand: C is kept (R339). -/
def incByte (o : Byte) (g : Flags) : Byte × Flags :=
  (o + 1, { z := decide (o + 1 = 0), n := false, h := decide (o &&& 0x0F = 0x0F), c := g.c })

/-- DEC of an 8-bit operand: C is kept (R340). -/
def decByte (o : Byte) (g : Flags) : Byte × Flags :=
  (o - 1, { z := decide (o - 1 = 0), n := true, h := decide (o &&& 0x0F = 0), c := g.c })

/-- The result and the bit shifted out, for a shift or rotate of `o` with flag C = `c` (R401-R408). SWAP shifts nothing
out. -/
def rotResult (op : RotOp) (o : Byte) (c : Bool) : Byte × Bool :=
  match op with
  | .rlc => ((o <<< 1) ||| (o >>> 7), o.getLsbD 7)
  | .rrc => ((o >>> 1) ||| (o <<< 7), o.getLsbD 0)
  | .rl => ((o <<< 1) ||| BitVec.ofNat 8 (bitNat c), o.getLsbD 7)
  | .rr => ((o >>> 1) ||| (BitVec.ofNat 8 (bitNat c) <<< 7), o.getLsbD 0)
  | .sla => (o <<< 1, o.getLsbD 7)
  | .sra => ((o >>> 1) ||| (o &&& 0x80), o.getLsbD 0)
  | .swap => ((o <<< 4) ||| (o >>> 4), false)
  | .srl => (o >>> 1, o.getLsbD 0)

/-- The flags of a CB shift or rotate: Z from the result (R401-R408). -/
def rotFlags (r : Byte × Bool) : Flags := { z := decide (r.1 = 0), n := false, h := false, c := r.2 }

/-- The flags of RLCA, RRCA, RLA and RRA: Z is always 0 (R341-R344). -/
def accRotFlags (r : Byte × Bool) : Flags := { z := false, n := false, h := false, c := r.2 }

/-- Whether DAA adds or subtracts 0x60 (R345). -/
def daaHigh (a : Byte) (g : Flags) : Bool := if g.n then g.c else g.c || decide (a.toNat > 0x99)

/-- Whether DAA adds or subtracts 0x06 (R345): the low nibble is the one before the first adjustment, which the first
adjustment does not change. -/
def daaLow (a : Byte) (g : Flags) : Bool := if g.n then g.h else g.h || decide (a.toNat % 16 > 9)

/-- DAA (R345). -/
def daaResult (a : Byte) (g : Flags) : Byte × Flags :=
  let adjust : Byte := (if daaHigh a g then 0x60 else 0) + (if daaLow a g then 0x06 else 0)
  let t := if g.n then a - adjust else a + adjust
  (t, { z := decide (t = 0), n := g.n, h := false, c := daaHigh a g })

/-- The result and flags of an operation on A and F alone (R341-R348). -/
def accResult (op : AccOp) (a : Byte) (g : Flags) : Byte × Flags :=
  match op with
  | .rlca => ((rotResult .rlc a g.c).1, accRotFlags (rotResult .rlc a g.c))
  | .rrca => ((rotResult .rrc a g.c).1, accRotFlags (rotResult .rrc a g.c))
  | .rla => ((rotResult .rl a g.c).1, accRotFlags (rotResult .rl a g.c))
  | .rra => ((rotResult .rr a g.c).1, accRotFlags (rotResult .rr a g.c))
  | .daa => daaResult a g
  | .cpl => (a ^^^ 0xFF, { g with n := true, h := true })
  | .scf => (a, { g with n := false, h := false, c := true })
  | .ccf => (a, { g with n := false, h := false, c := !g.c })

/-- ADD HL,rr: Z is kept, H is the carry out of bit 11, C out of bit 15 (R383). -/
def addWord (h r : Word) (g : Flags) : Word × Flags :=
  (h + r, { z := g.z, n := false
            h := decide (h.toNat % 0x1000 + r.toNat % 0x1000 > 0x0FFF)
            c := decide (h.toNat + r.toNat > 0xFFFF) })

/-- SP plus a signed byte, with both carries from the unsigned low bytes (R384, R385). -/
def addSigned (p : Word) (e : Byte) : Word × Flags :=
  (p + sext16 e, { z := false, n := false
                   h := decide (p.toNat % 16 + e.toNat % 16 > 0xF)
                   c := decide (p.toNat % 0x100 + e.toNat > 0xFF) })

/-- The flags of BIT b: Z is the complement of the bit, C is kept (R409). -/
def bitFlags (b : BitIx) (o : Byte) (g : Flags) : Flags :=
  { z := !o.getLsbD (bitNumber b), n := false, h := true, c := g.c }

/-- RES b (R410). -/
def resBit (b : BitIx) (o : Byte) : Byte := o &&& ~~~ ((1 : Byte) <<< bitNumber b)

/-- SET b (R411). -/
def setBit (b : BitIx) (o : Byte) : Byte := o ||| ((1 : Byte) <<< bitNumber b)

end Sys2Proof.Machine
end

