-- ==== Sys2Proof/Machine/Ops.lean ====
section
/-! DEFINITION. The named operations over registers, memory and interrupts: the register file (00_scope.md R12), fetch
and stack (R13), interrupt dispatch (60_exceptions.md R506) and the return from it (45_control.md R444), and the end of
an instruction (40_step.md R258). -/

namespace Sys2Proof.Machine

/-- What a CPU step, and an instruction's meaning, answers (40_step.md R250). -/
abbrev Result := Host.Outcome State Fault Refusal

/-- The instruction is complete in state `s` and reports `n` cycles (R258). -/
def finish (n : Nat) (s : State) : Result := .next { s with cycles := n }

/-- An 8-bit register of the file (R30). -/
def Cpu.get (k : Cpu) (r : Reg8) : Byte :=
  match r with
  | .b => k.b
  | .c => k.c
  | .d => k.d
  | .e => k.e
  | .h => k.h
  | .l => k.l
  | .a => k.a

/-- Write an 8-bit register of the file (R30). -/
def Cpu.set (k : Cpu) (r : Reg8) (v : Byte) : Cpu :=
  match r with
  | .b => { k with b := v }
  | .c => { k with c := v }
  | .d => { k with d := v }
  | .e => { k with e := v }
  | .h => { k with h := v }
  | .l => { k with l := v }
  | .a => { k with a := v }

/-- BC as a pair (R12, R30). -/
def Cpu.bc (k : Cpu) : Word := concat k.b k.c
/-- DE as a pair. -/
def Cpu.de (k : Cpu) : Word := concat k.d k.e
/-- HL as a pair. -/
def Cpu.hl (k : Cpu) : Word := concat k.h k.l
/-- AF as a pair. -/
def Cpu.af (k : Cpu) : Word := concat k.a k.f

/-- `BC <- v` (R12). -/
def Cpu.setBc (k : Cpu) (v : Word) : Cpu := { k with b := hiByte v, c := loByte v }
/-- `DE <- v`. -/
def Cpu.setDe (k : Cpu) (v : Word) : Cpu := { k with d := hiByte v, e := loByte v }
/-- `HL <- v`. -/
def Cpu.setHl (k : Cpu) (v : Word) : Cpu := { k with h := hiByte v, l := loByte v }
/-- `AF <- v`: a write to F stores `v & 0xF0` (R33, 41_load.md R303). -/
def Cpu.setAf (k : Cpu) (v : Word) : Cpu := { k with a := hiByte v, f := loByte v &&& 0xF0 }

/-- The flags (R32). -/
def Cpu.flags (k : Cpu) : Flags := flagsOf k.f

/-- Write all four flags (R32, R33). -/
def Cpu.setFlags (k : Cpu) (g : Flags) : Cpu := { k with f := flagByte g }

/-- Replace the CPU. -/
def State.setCpu (s : State) (k : Cpu) : State := { s with cpu := k }

/-- `PC <- v`. -/
def State.setPc (s : State) (v : Word) : State := s.setCpu { s.cpu with pc := v }

/-- `SP <- v`. -/
def State.setSp (s : State) (v : Word) : State := s.setCpu { s.cpu with sp := v }

/-- `fetch8()` of R13: PC wraps modulo 0x10000 (R34). -/
def fetch8 (s : State) : Byte × State := (memRead s s.cpu.pc, s.setPc (s.cpu.pc + 1))

/-- One byte pushed: `SP <- SP - 1; MemWrite(SP, 1, v)` (R13). -/
def pushByte (s : State) (v : Byte) : State :=
  memWrite (s.setSp (s.cpu.sp - 1)) (s.cpu.sp - 1) v

/-- `push16(v)` of R13: the high byte first. -/
def push16 (s : State) (v : Word) : State := pushByte (pushByte s (hiByte v)) (loByte v)

/-- `pop16()` of R13: the low byte first; a read has no side effect (R120). -/
def pop16 (s : State) : Word × State :=
  (concat (memRead s (s.cpu.sp + 1)) (memRead s s.cpu.sp), s.setSp (s.cpu.sp + 2))

/-- `request(k)`: set bit k of IF (60_exceptions.md R501). -/
def request (s : State) (k : Nat) : State := { s with ifReg := s.ifReg ||| ((1 : Byte) <<< k) }

/-- `pending = IE & IF & 0x1F` (R504). -/
def pending (s : State) : Byte := s.ieReg &&& s.ifReg &&& 0x1F

/-- The index of the lowest set bit of a non-zero pending byte (R505). -/
def lowestPending (p : Byte) : Nat :=
  if p.getLsbD 0 then 0
  else if p.getLsbD 1 then 1
  else if p.getLsbD 2 then 2
  else if p.getLsbD 3 then 3
  else 4

/-- The vector of source k: `0x0040 + 8*k` (R501). -/
def vector (k : Nat) : Word := BitVec.ofNat 16 (0x40 + 8 * k)

/-- Taking an interrupt: the one exception entry of this hardware (R506), in the order of its listing. Source k is
acknowledged in IF, IME and a pending EI are cleared, PC is pushed, PC becomes the vector, 5 cycles are reported. -/
def dispatch (s : State) (k : Nat) : State :=
  let s1 : State :=
    { s with ifReg := s.ifReg &&& ~~~ ((1 : Byte) <<< k)
             cpu := { s.cpu with halted := false, ime := false, eiPending := false } }
  { (push16 s1 s.cpu.pc).setPc (vector k) with cycles := 5 }

/-- `PC <- pop16()` (R438). -/
def popPc (s : State) : State := (pop16 s).2.setPc (pop16 s).1

/-- The return from an interrupt handler: pop PC, enable at once, drop a pending EI (R444, R509). -/
def returnInterrupt (s : State) : State :=
  let t := popPc s
  t.setCpu { t.cpu with ime := true, eiPending := false }

/-- `lock`: only reset clears it (46_system.md R465, R466). -/
def lockCpu (s : State) : State := s.setCpu { s.cpu with locked := true }

end Sys2Proof.Machine
end

