-- ==== Sys2Proof/Machine/Operands.lean ====
section
/-! DEFINITION. Every operand form (30_encoding.md R203-R209) and the operations over them that the instruction families
share (41_load.md to 46_system.md). -/

namespace Sys2Proof.Machine

/-- Read an `R8` operand: a register, or `MemRead(HL, 1)` (R203). -/
def readR8 (s : State) : R8 → Byte
  | .reg r => s.cpu.get r
  | .atHl => memRead s s.cpu.hl

/-- Write an `R8` operand: a register, or `MemWrite(HL, 1, v)` (R203). -/
def writeR8 (s : State) (r : R8) (v : Byte) : State :=
  match r with
  | .reg r => s.setCpu (s.cpu.set r v)
  | .atHl => memWrite s s.cpu.hl v

/-- Read an `R16` operand (R204). -/
def readR16 (k : Cpu) : R16 → Word
  | .bc => k.bc
  | .de => k.de
  | .hl => k.hl
  | .sp => k.sp

/-- Write an `R16` operand (R204). -/
def writeR16 (k : Cpu) (r : R16) (v : Word) : Cpu :=
  match r with
  | .bc => k.setBc v
  | .de => k.setDe v
  | .hl => k.setHl v
  | .sp => { k with sp := v }

/-- Read an `R16STK` operand (R205). -/
def readR16Stk (k : Cpu) : R16Stk → Word
  | .bc => k.bc
  | .de => k.de
  | .hl => k.hl
  | .af => k.af

/-- Write an `R16STK` operand (R205); AF masks F (R303). -/
def writeR16Stk (k : Cpu) (r : R16Stk) (v : Word) : Cpu :=
  match r with
  | .bc => k.setBc v
  | .de => k.setDe v
  | .hl => k.setHl v
  | .af => k.setAf v

/-- The address an `R16MEM` operand names (R206). -/
def r16MemAddress (k : Cpu) : R16Mem → Word
  | .bc => k.bc
  | .de => k.de
  | .hlInc => k.hl
  | .hlDec => k.hl

/-- What an `R16MEM` operand does to HL after the access (R206). -/
def r16MemAfter (k : Cpu) : R16Mem → Cpu
  | .bc => k
  | .de => k
  | .hlInc => k.setHl (k.hl + 1)
  | .hlDec => k.setHl (k.hl - 1)

/-- `cond(cc)` (R207). -/
def holds (k : Cpu) : Cond → Bool
  | .nz => !k.flags.z
  | .z => k.flags.z
  | .nc => !k.flags.c
  | .c => k.flags.c

/-- The high-page address `0xFF00 + b` (R209). -/
def highPage (b : Byte) : Word := 0xFF00 + b.setWidth 16

/-- `LD` of an `R8` operand from an `R8` operand (R281-R283). -/
def loadR8 (d r : R8) (s : State) : State := writeR8 s d (readR8 s r)

/-- `LD R16MEM,A` (R288-R291). -/
def storeAcc (m : R16Mem) (s : State) : State :=
  let t := memWrite s (r16MemAddress s.cpu m) s.cpu.a
  t.setCpu (r16MemAfter t.cpu m)

/-- `LD A,R16MEM` (R286, R287, R292, R293). -/
def loadAcc (m : R16Mem) (s : State) : State :=
  let k := { s.cpu with a := memRead s (r16MemAddress s.cpu m) }
  s.setCpu (r16MemAfter k m)

/-- `LD A` from an absolute or high-page address (R294, R296, R298). -/
def loadAccAt (a : Word) (s : State) : State := s.setCpu { s.cpu with a := memRead s a }

/-- Store A at an absolute or high-page address (R295, R297, R299). -/
def storeAccAt (a : Word) (s : State) : State := memWrite s a s.cpu.a

/-- `LD R16,n16` (R300). -/
def loadR16 (r : R16) (v : Word) (s : State) : State := s.setCpu (writeR16 s.cpu r v)

/-- `LD (n16),SP`: the low byte first (R301). -/
def storeSp (a : Word) (s : State) : State :=
  memWrite (memWrite s a (loByte s.cpu.sp)) (a + 1) (hiByte s.cpu.sp)

/-- `POP rr` (R303). -/
def popPair (r : R16Stk) (s : State) : State :=
  let t := (pop16 s).2
  t.setCpu (writeR16Stk t.cpu r (pop16 s).1)

/-- `PUSH rr` (R304). -/
def pushPair (r : R16Stk) (s : State) : State := push16 s (readR16Stk s.cpu r)

/-- An ALU operation on A and the operand `v` (R331-R338): CP leaves A unchanged. -/
def aluAcc (op : AluOp) (v : Byte) (s : State) : State :=
  let r := aluResult op s.cpu.a v s.cpu.flags.c
  let k := s.cpu.setFlags r.2
  s.setCpu (if op = .cp then k else { k with a := r.1 })

/-- Write an 8-bit operand's new value and the flags (R339, R340, R401-R408). -/
def updateR8 (r : R8) (t : Byte × Flags) (s : State) : State :=
  (writeR8 s r t.1).setCpu ((writeR8 s r t.1).cpu.setFlags t.2)

/-- `INC R8` (R339). -/
def incR8 (r : R8) (s : State) : State := updateR8 r (incByte (readR8 s r) s.cpu.flags) s

/-- `DEC R8` (R340). -/
def decR8 (r : R8) (s : State) : State := updateR8 r (decByte (readR8 s r) s.cpu.flags) s

/-- An operation on A and F alone (R341-R348). -/
def accOp (op : AccOp) (s : State) : State :=
  let r := accResult op s.cpu.a s.cpu.flags
  s.setCpu { s.cpu.setFlags r.2 with a := r.1 }

/-- `INC R16` (R381). -/
def incR16 (r : R16) (s : State) : State := s.setCpu (writeR16 s.cpu r (readR16 s.cpu r + 1))

/-- `DEC R16` (R382). -/
def decR16 (r : R16) (s : State) : State := s.setCpu (writeR16 s.cpu r (readR16 s.cpu r - 1))

/-- `ADD HL,R16` (R383). -/
def addHl (r : R16) (s : State) : State :=
  let t := addWord s.cpu.hl (readR16 s.cpu r) s.cpu.flags
  s.setCpu ((s.cpu.setHl t.1).setFlags t.2)

/-- `ADD SP,e8` (R384). -/
def addSp (e : Byte) (s : State) : State :=
  let t := addSigned s.cpu.sp e
  s.setCpu ({ s.cpu with sp := t.1 }.setFlags t.2)

/-- `LD HL,SP+e8` (R385). -/
def loadHlSp (e : Byte) (s : State) : State :=
  let t := addSigned s.cpu.sp e
  s.setCpu ((s.cpu.setHl t.1).setFlags t.2)

/-- A CB shift or rotate (R401-R408). -/
def rotR8 (op : RotOp) (r : R8) (s : State) : State :=
  let t := rotResult op (readR8 s r) s.cpu.flags.c
  updateR8 r (t.1, rotFlags t) s

/-- `BIT b,R8`: the operand is not written (R409). -/
def testBitR8 (b : BitIx) (r : R8) (s : State) : State :=
  s.setCpu (s.cpu.setFlags (bitFlags b (readR8 s r) s.cpu.flags))

/-- `RES b,R8`: no flag changes (R410). -/
def resBitR8 (b : BitIx) (r : R8) (s : State) : State := writeR8 s r (resBit b (readR8 s r))

/-- `SET b,R8`: no flag changes (R411). -/
def setBitR8 (b : BitIx) (r : R8) (s : State) : State := writeR8 s r (setBit b (readR8 s r))

/-- `PC <- pc' + sext(e8)`; PC is `pc'` here (R434). -/
def jumpRel (e : Byte) (s : State) : State := s.setPc (s.cpu.pc + sext16 e)

/-- `push16(pc'); PC <- target` (R436, R440). -/
def call (a : Word) (s : State) : State := (push16 s s.cpu.pc).setPc a

/-- A conditional instruction: `taken` and its cycles when the condition holds, else only the fetch and the base cycles
(R430). -/
def branch (cc : Cond) (base taken : Nat) (f : State → State) (s : State) : Result :=
  if holds s.cpu cc then finish taken (f s) else finish base s

end Sys2Proof.Machine
end

