-- ==== Sys2Proof/Machine/Alu16.lean ====
section
/-! DEFINITION. 16-bit arithmetic (43_alu16.md R380-R385).
One meaning per instruction, over the shared operations of Machine/Operands.lean. PC is already past the instruction
(40_step.md R255); the number is the cycle count of R258. -/

namespace Sys2Proof.Machine

/-- `INC BC` (R381). -/
def execIncBc (s : State) : Result := finish 2 (incR16 .bc s)

/-- `ADD HL,BC` (R383). -/
def execAddHlBc (s : State) : Result := finish 2 (addHl .bc s)

/-- `DEC BC` (R382). -/
def execDecBc (s : State) : Result := finish 2 (decR16 .bc s)

/-- `INC DE` (R381). -/
def execIncDe (s : State) : Result := finish 2 (incR16 .de s)

/-- `ADD HL,DE` (R383). -/
def execAddHlDe (s : State) : Result := finish 2 (addHl .de s)

/-- `DEC DE` (R382). -/
def execDecDe (s : State) : Result := finish 2 (decR16 .de s)

/-- `INC HL` (R381). -/
def execIncHl (s : State) : Result := finish 2 (incR16 .hl s)

/-- `ADD HL,HL` (R383). -/
def execAddHlHl (s : State) : Result := finish 2 (addHl .hl s)

/-- `DEC HL` (R382). -/
def execDecHl (s : State) : Result := finish 2 (decR16 .hl s)

/-- `INC SP` (R381). -/
def execIncSp (s : State) : Result := finish 2 (incR16 .sp s)

/-- `ADD HL,SP` (R383). -/
def execAddHlSp (s : State) : Result := finish 2 (addHl .sp s)

/-- `DEC SP` (R382). -/
def execDecSp (s : State) : Result := finish 2 (decR16 .sp s)

/-- `ADD SP,e8` (R384). -/
def execAddSpE8 (e : Byte) (s : State) : Result := finish 4 (addSp e s)

/-- `LD HL,SP+e8` (R385). -/
def execLdHlSpE8 (e : Byte) (s : State) : Result := finish 3 (loadHlSp e s)

end Sys2Proof.Machine
end

