-- ==== Sys2Proof/Machine/Alu8.lean ====
section
/-! DEFINITION. 8-bit arithmetic, logic and accumulator operations (42_alu8.md R330-R348).
One meaning per instruction, over the shared operations of Machine/Operands.lean. PC is already past the instruction
(40_step.md R255); the number is the cycle count of R258. -/

namespace Sys2Proof.Machine

/-- `INC B` (R339). -/
def execIncB (s : State) : Result := finish 1 (incR8 (.reg .b) s)

/-- `DEC B` (R340). -/
def execDecB (s : State) : Result := finish 1 (decR8 (.reg .b) s)

/-- `RLCA` (R341). -/
def execRlca (s : State) : Result := finish 1 (accOp .rlca s)

/-- `INC C` (R339). -/
def execIncC (s : State) : Result := finish 1 (incR8 (.reg .c) s)

/-- `DEC C` (R340). -/
def execDecC (s : State) : Result := finish 1 (decR8 (.reg .c) s)

/-- `RRCA` (R342). -/
def execRrca (s : State) : Result := finish 1 (accOp .rrca s)

/-- `INC D` (R339). -/
def execIncD (s : State) : Result := finish 1 (incR8 (.reg .d) s)

/-- `DEC D` (R340). -/
def execDecD (s : State) : Result := finish 1 (decR8 (.reg .d) s)

/-- `RLA` (R343). -/
def execRla (s : State) : Result := finish 1 (accOp .rla s)

/-- `INC E` (R339). -/
def execIncE (s : State) : Result := finish 1 (incR8 (.reg .e) s)

/-- `DEC E` (R340). -/
def execDecE (s : State) : Result := finish 1 (decR8 (.reg .e) s)

/-- `RRA` (R344). -/
def execRra (s : State) : Result := finish 1 (accOp .rra s)

/-- `INC H` (R339). -/
def execIncH (s : State) : Result := finish 1 (incR8 (.reg .h) s)

/-- `DEC H` (R340). -/
def execDecH (s : State) : Result := finish 1 (decR8 (.reg .h) s)

/-- `DAA` (R345). -/
def execDaa (s : State) : Result := finish 1 (accOp .daa s)

/-- `INC L` (R339). -/
def execIncL (s : State) : Result := finish 1 (incR8 (.reg .l) s)

/-- `DEC L` (R340). -/
def execDecL (s : State) : Result := finish 1 (decR8 (.reg .l) s)

/-- `CPL` (R346). -/
def execCpl (s : State) : Result := finish 1 (accOp .cpl s)

/-- `INC (HL)` (R339). -/
def execIncAtHl (s : State) : Result := finish 3 (incR8 .atHl s)

/-- `DEC (HL)` (R340). -/
def execDecAtHl (s : State) : Result := finish 3 (decR8 .atHl s)

/-- `SCF` (R347). -/
def execScf (s : State) : Result := finish 1 (accOp .scf s)

/-- `INC A` (R339). -/
def execIncA (s : State) : Result := finish 1 (incR8 (.reg .a) s)

/-- `DEC A` (R340). -/
def execDecA (s : State) : Result := finish 1 (decR8 (.reg .a) s)

/-- `CCF` (R348). -/
def execCcf (s : State) : Result := finish 1 (accOp .ccf s)

/-- `ADD A,B` (R331). -/
def execAddAB (s : State) : Result := finish 1 (aluAcc .add (readR8 s (.reg .b)) s)

/-- `ADD A,C` (R331). -/
def execAddAC (s : State) : Result := finish 1 (aluAcc .add (readR8 s (.reg .c)) s)

/-- `ADD A,D` (R331). -/
def execAddAD (s : State) : Result := finish 1 (aluAcc .add (readR8 s (.reg .d)) s)

/-- `ADD A,E` (R331). -/
def execAddAE (s : State) : Result := finish 1 (aluAcc .add (readR8 s (.reg .e)) s)

/-- `ADD A,H` (R331). -/
def execAddAH (s : State) : Result := finish 1 (aluAcc .add (readR8 s (.reg .h)) s)

/-- `ADD A,L` (R331). -/
def execAddAL (s : State) : Result := finish 1 (aluAcc .add (readR8 s (.reg .l)) s)

/-- `ADD A,(HL)` (R331). -/
def execAddAAtHl (s : State) : Result := finish 2 (aluAcc .add (readR8 s .atHl) s)

/-- `ADD A,A` (R331). -/
def execAddAA (s : State) : Result := finish 1 (aluAcc .add (readR8 s (.reg .a)) s)

/-- `ADC A,B` (R332). -/
def execAdcAB (s : State) : Result := finish 1 (aluAcc .adc (readR8 s (.reg .b)) s)

/-- `ADC A,C` (R332). -/
def execAdcAC (s : State) : Result := finish 1 (aluAcc .adc (readR8 s (.reg .c)) s)

/-- `ADC A,D` (R332). -/
def execAdcAD (s : State) : Result := finish 1 (aluAcc .adc (readR8 s (.reg .d)) s)

/-- `ADC A,E` (R332). -/
def execAdcAE (s : State) : Result := finish 1 (aluAcc .adc (readR8 s (.reg .e)) s)

/-- `ADC A,H` (R332). -/
def execAdcAH (s : State) : Result := finish 1 (aluAcc .adc (readR8 s (.reg .h)) s)

/-- `ADC A,L` (R332). -/
def execAdcAL (s : State) : Result := finish 1 (aluAcc .adc (readR8 s (.reg .l)) s)

/-- `ADC A,(HL)` (R332). -/
def execAdcAAtHl (s : State) : Result := finish 2 (aluAcc .adc (readR8 s .atHl) s)

/-- `ADC A,A` (R332). -/
def execAdcAA (s : State) : Result := finish 1 (aluAcc .adc (readR8 s (.reg .a)) s)

/-- `SUB A,B` (R333). -/
def execSubAB (s : State) : Result := finish 1 (aluAcc .sub (readR8 s (.reg .b)) s)

/-- `SUB A,C` (R333). -/
def execSubAC (s : State) : Result := finish 1 (aluAcc .sub (readR8 s (.reg .c)) s)

/-- `SUB A,D` (R333). -/
def execSubAD (s : State) : Result := finish 1 (aluAcc .sub (readR8 s (.reg .d)) s)

/-- `SUB A,E` (R333). -/
def execSubAE (s : State) : Result := finish 1 (aluAcc .sub (readR8 s (.reg .e)) s)

/-- `SUB A,H` (R333). -/
def execSubAH (s : State) : Result := finish 1 (aluAcc .sub (readR8 s (.reg .h)) s)

/-- `SUB A,L` (R333). -/
def execSubAL (s : State) : Result := finish 1 (aluAcc .sub (readR8 s (.reg .l)) s)

/-- `SUB A,(HL)` (R333). -/
def execSubAAtHl (s : State) : Result := finish 2 (aluAcc .sub (readR8 s .atHl) s)

/-- `SUB A,A` (R333). -/
def execSubAA (s : State) : Result := finish 1 (aluAcc .sub (readR8 s (.reg .a)) s)

/-- `SBC A,B` (R334). -/
def execSbcAB (s : State) : Result := finish 1 (aluAcc .sbc (readR8 s (.reg .b)) s)

/-- `SBC A,C` (R334). -/
def execSbcAC (s : State) : Result := finish 1 (aluAcc .sbc (readR8 s (.reg .c)) s)

/-- `SBC A,D` (R334). -/
def execSbcAD (s : State) : Result := finish 1 (aluAcc .sbc (readR8 s (.reg .d)) s)

/-- `SBC A,E` (R334). -/
def execSbcAE (s : State) : Result := finish 1 (aluAcc .sbc (readR8 s (.reg .e)) s)

/-- `SBC A,H` (R334). -/
def execSbcAH (s : State) : Result := finish 1 (aluAcc .sbc (readR8 s (.reg .h)) s)

/-- `SBC A,L` (R334). -/
def execSbcAL (s : State) : Result := finish 1 (aluAcc .sbc (readR8 s (.reg .l)) s)

/-- `SBC A,(HL)` (R334). -/
def execSbcAAtHl (s : State) : Result := finish 2 (aluAcc .sbc (readR8 s .atHl) s)

/-- `SBC A,A` (R334). -/
def execSbcAA (s : State) : Result := finish 1 (aluAcc .sbc (readR8 s (.reg .a)) s)

/-- `AND A,B` (R335). -/
def execAndAB (s : State) : Result := finish 1 (aluAcc .and (readR8 s (.reg .b)) s)

/-- `AND A,C` (R335). -/
def execAndAC (s : State) : Result := finish 1 (aluAcc .and (readR8 s (.reg .c)) s)

/-- `AND A,D` (R335). -/
def execAndAD (s : State) : Result := finish 1 (aluAcc .and (readR8 s (.reg .d)) s)

/-- `AND A,E` (R335). -/
def execAndAE (s : State) : Result := finish 1 (aluAcc .and (readR8 s (.reg .e)) s)

/-- `AND A,H` (R335). -/
def execAndAH (s : State) : Result := finish 1 (aluAcc .and (readR8 s (.reg .h)) s)

/-- `AND A,L` (R335). -/
def execAndAL (s : State) : Result := finish 1 (aluAcc .and (readR8 s (.reg .l)) s)

/-- `AND A,(HL)` (R335). -/
def execAndAAtHl (s : State) : Result := finish 2 (aluAcc .and (readR8 s .atHl) s)

/-- `AND A,A` (R335). -/
def execAndAA (s : State) : Result := finish 1 (aluAcc .and (readR8 s (.reg .a)) s)

/-- `XOR A,B` (R336). -/
def execXorAB (s : State) : Result := finish 1 (aluAcc .xor (readR8 s (.reg .b)) s)

/-- `XOR A,C` (R336). -/
def execXorAC (s : State) : Result := finish 1 (aluAcc .xor (readR8 s (.reg .c)) s)

/-- `XOR A,D` (R336). -/
def execXorAD (s : State) : Result := finish 1 (aluAcc .xor (readR8 s (.reg .d)) s)

/-- `XOR A,E` (R336). -/
def execXorAE (s : State) : Result := finish 1 (aluAcc .xor (readR8 s (.reg .e)) s)

/-- `XOR A,H` (R336). -/
def execXorAH (s : State) : Result := finish 1 (aluAcc .xor (readR8 s (.reg .h)) s)

/-- `XOR A,L` (R336). -/
def execXorAL (s : State) : Result := finish 1 (aluAcc .xor (readR8 s (.reg .l)) s)

/-- `XOR A,(HL)` (R336). -/
def execXorAAtHl (s : State) : Result := finish 2 (aluAcc .xor (readR8 s .atHl) s)

/-- `XOR A,A` (R336). -/
def execXorAA (s : State) : Result := finish 1 (aluAcc .xor (readR8 s (.reg .a)) s)

/-- `OR A,B` (R337). -/
def execOrAB (s : State) : Result := finish 1 (aluAcc .or (readR8 s (.reg .b)) s)

/-- `OR A,C` (R337). -/
def execOrAC (s : State) : Result := finish 1 (aluAcc .or (readR8 s (.reg .c)) s)

/-- `OR A,D` (R337). -/
def execOrAD (s : State) : Result := finish 1 (aluAcc .or (readR8 s (.reg .d)) s)

/-- `OR A,E` (R337). -/
def execOrAE (s : State) : Result := finish 1 (aluAcc .or (readR8 s (.reg .e)) s)

/-- `OR A,H` (R337). -/
def execOrAH (s : State) : Result := finish 1 (aluAcc .or (readR8 s (.reg .h)) s)

/-- `OR A,L` (R337). -/
def execOrAL (s : State) : Result := finish 1 (aluAcc .or (readR8 s (.reg .l)) s)

/-- `OR A,(HL)` (R337). -/
def execOrAAtHl (s : State) : Result := finish 2 (aluAcc .or (readR8 s .atHl) s)

/-- `OR A,A` (R337). -/
def execOrAA (s : State) : Result := finish 1 (aluAcc .or (readR8 s (.reg .a)) s)

/-- `CP A,B` (R338). -/
def execCpAB (s : State) : Result := finish 1 (aluAcc .cp (readR8 s (.reg .b)) s)

/-- `CP A,C` (R338). -/
def execCpAC (s : State) : Result := finish 1 (aluAcc .cp (readR8 s (.reg .c)) s)

/-- `CP A,D` (R338). -/
def execCpAD (s : State) : Result := finish 1 (aluAcc .cp (readR8 s (.reg .d)) s)

/-- `CP A,E` (R338). -/
def execCpAE (s : State) : Result := finish 1 (aluAcc .cp (readR8 s (.reg .e)) s)

/-- `CP A,H` (R338). -/
def execCpAH (s : State) : Result := finish 1 (aluAcc .cp (readR8 s (.reg .h)) s)

/-- `CP A,L` (R338). -/
def execCpAL (s : State) : Result := finish 1 (aluAcc .cp (readR8 s (.reg .l)) s)

/-- `CP A,(HL)` (R338). -/
def execCpAAtHl (s : State) : Result := finish 2 (aluAcc .cp (readR8 s .atHl) s)

/-- `CP A,A` (R338). -/
def execCpAA (s : State) : Result := finish 1 (aluAcc .cp (readR8 s (.reg .a)) s)

/-- `ADD A,n8` (R331). -/
def execAddAN8 (n : Byte) (s : State) : Result := finish 2 (aluAcc .add n s)

/-- `ADC A,n8` (R332). -/
def execAdcAN8 (n : Byte) (s : State) : Result := finish 2 (aluAcc .adc n s)

/-- `SUB A,n8` (R333). -/
def execSubAN8 (n : Byte) (s : State) : Result := finish 2 (aluAcc .sub n s)

/-- `SBC A,n8` (R334). -/
def execSbcAN8 (n : Byte) (s : State) : Result := finish 2 (aluAcc .sbc n s)

/-- `AND A,n8` (R335). -/
def execAndAN8 (n : Byte) (s : State) : Result := finish 2 (aluAcc .and n s)

/-- `XOR A,n8` (R336). -/
def execXorAN8 (n : Byte) (s : State) : Result := finish 2 (aluAcc .xor n s)

/-- `OR A,n8` (R337). -/
def execOrAN8 (n : Byte) (s : State) : Result := finish 2 (aluAcc .or n s)

/-- `CP A,n8` (R338). -/
def execCpAN8 (n : Byte) (s : State) : Result := finish 2 (aluAcc .cp n s)

end Sys2Proof.Machine
end

