-- ==== Sys2Proof/Machine/Cb.lean ====
section
/-! DEFINITION. The CB-prefixed shifts, rotates and bit operations (44_cb_prefix.md R400-R411).
One meaning per instruction, over the shared operations of Machine/Operands.lean. PC is already past the instruction
(40_step.md R255); the number is the cycle count of R258. -/

namespace Sys2Proof.Machine

/-- `RLC B` (R401). -/
def execRlcB (s : State) : Result := finish 2 (rotR8 .rlc (.reg .b) s)

/-- `RLC C` (R401). -/
def execRlcC (s : State) : Result := finish 2 (rotR8 .rlc (.reg .c) s)

/-- `RLC D` (R401). -/
def execRlcD (s : State) : Result := finish 2 (rotR8 .rlc (.reg .d) s)

/-- `RLC E` (R401). -/
def execRlcE (s : State) : Result := finish 2 (rotR8 .rlc (.reg .e) s)

/-- `RLC H` (R401). -/
def execRlcH (s : State) : Result := finish 2 (rotR8 .rlc (.reg .h) s)

/-- `RLC L` (R401). -/
def execRlcL (s : State) : Result := finish 2 (rotR8 .rlc (.reg .l) s)

/-- `RLC (HL)` (R401). -/
def execRlcAtHl (s : State) : Result := finish 4 (rotR8 .rlc .atHl s)

/-- `RLC A` (R401). -/
def execRlcA (s : State) : Result := finish 2 (rotR8 .rlc (.reg .a) s)

/-- `RRC B` (R402). -/
def execRrcB (s : State) : Result := finish 2 (rotR8 .rrc (.reg .b) s)

/-- `RRC C` (R402). -/
def execRrcC (s : State) : Result := finish 2 (rotR8 .rrc (.reg .c) s)

/-- `RRC D` (R402). -/
def execRrcD (s : State) : Result := finish 2 (rotR8 .rrc (.reg .d) s)

/-- `RRC E` (R402). -/
def execRrcE (s : State) : Result := finish 2 (rotR8 .rrc (.reg .e) s)

/-- `RRC H` (R402). -/
def execRrcH (s : State) : Result := finish 2 (rotR8 .rrc (.reg .h) s)

/-- `RRC L` (R402). -/
def execRrcL (s : State) : Result := finish 2 (rotR8 .rrc (.reg .l) s)

/-- `RRC (HL)` (R402). -/
def execRrcAtHl (s : State) : Result := finish 4 (rotR8 .rrc .atHl s)

/-- `RRC A` (R402). -/
def execRrcA (s : State) : Result := finish 2 (rotR8 .rrc (.reg .a) s)

/-- `RL B` (R403). -/
def execRlB (s : State) : Result := finish 2 (rotR8 .rl (.reg .b) s)

/-- `RL C` (R403). -/
def execRlC (s : State) : Result := finish 2 (rotR8 .rl (.reg .c) s)

/-- `RL D` (R403). -/
def execRlD (s : State) : Result := finish 2 (rotR8 .rl (.reg .d) s)

/-- `RL E` (R403). -/
def execRlE (s : State) : Result := finish 2 (rotR8 .rl (.reg .e) s)

/-- `RL H` (R403). -/
def execRlH (s : State) : Result := finish 2 (rotR8 .rl (.reg .h) s)

/-- `RL L` (R403). -/
def execRlL (s : State) : Result := finish 2 (rotR8 .rl (.reg .l) s)

/-- `RL (HL)` (R403). -/
def execRlAtHl (s : State) : Result := finish 4 (rotR8 .rl .atHl s)

/-- `RL A` (R403). -/
def execRlA (s : State) : Result := finish 2 (rotR8 .rl (.reg .a) s)

/-- `RR B` (R404). -/
def execRrB (s : State) : Result := finish 2 (rotR8 .rr (.reg .b) s)

/-- `RR C` (R404). -/
def execRrC (s : State) : Result := finish 2 (rotR8 .rr (.reg .c) s)

/-- `RR D` (R404). -/
def execRrD (s : State) : Result := finish 2 (rotR8 .rr (.reg .d) s)

/-- `RR E` (R404). -/
def execRrE (s : State) : Result := finish 2 (rotR8 .rr (.reg .e) s)

/-- `RR H` (R404). -/
def execRrH (s : State) : Result := finish 2 (rotR8 .rr (.reg .h) s)

/-- `RR L` (R404). -/
def execRrL (s : State) : Result := finish 2 (rotR8 .rr (.reg .l) s)

/-- `RR (HL)` (R404). -/
def execRrAtHl (s : State) : Result := finish 4 (rotR8 .rr .atHl s)

/-- `RR A` (R404). -/
def execRrA (s : State) : Result := finish 2 (rotR8 .rr (.reg .a) s)

/-- `SLA B` (R405). -/
def execSlaB (s : State) : Result := finish 2 (rotR8 .sla (.reg .b) s)

/-- `SLA C` (R405). -/
def execSlaC (s : State) : Result := finish 2 (rotR8 .sla (.reg .c) s)

/-- `SLA D` (R405). -/
def execSlaD (s : State) : Result := finish 2 (rotR8 .sla (.reg .d) s)

/-- `SLA E` (R405). -/
def execSlaE (s : State) : Result := finish 2 (rotR8 .sla (.reg .e) s)

/-- `SLA H` (R405). -/
def execSlaH (s : State) : Result := finish 2 (rotR8 .sla (.reg .h) s)

/-- `SLA L` (R405). -/
def execSlaL (s : State) : Result := finish 2 (rotR8 .sla (.reg .l) s)

/-- `SLA (HL)` (R405). -/
def execSlaAtHl (s : State) : Result := finish 4 (rotR8 .sla .atHl s)

/-- `SLA A` (R405). -/
def execSlaA (s : State) : Result := finish 2 (rotR8 .sla (.reg .a) s)

/-- `SRA B` (R406). -/
def execSraB (s : State) : Result := finish 2 (rotR8 .sra (.reg .b) s)

/-- `SRA C` (R406). -/
def execSraC (s : State) : Result := finish 2 (rotR8 .sra (.reg .c) s)

/-- `SRA D` (R406). -/
def execSraD (s : State) : Result := finish 2 (rotR8 .sra (.reg .d) s)

/-- `SRA E` (R406). -/
def execSraE (s : State) : Result := finish 2 (rotR8 .sra (.reg .e) s)

/-- `SRA H` (R406). -/
def execSraH (s : State) : Result := finish 2 (rotR8 .sra (.reg .h) s)

/-- `SRA L` (R406). -/
def execSraL (s : State) : Result := finish 2 (rotR8 .sra (.reg .l) s)

/-- `SRA (HL)` (R406). -/
def execSraAtHl (s : State) : Result := finish 4 (rotR8 .sra .atHl s)

/-- `SRA A` (R406). -/
def execSraA (s : State) : Result := finish 2 (rotR8 .sra (.reg .a) s)

/-- `SWAP B` (R407). -/
def execSwapB (s : State) : Result := finish 2 (rotR8 .swap (.reg .b) s)

/-- `SWAP C` (R407). -/
def execSwapC (s : State) : Result := finish 2 (rotR8 .swap (.reg .c) s)

/-- `SWAP D` (R407). -/
def execSwapD (s : State) : Result := finish 2 (rotR8 .swap (.reg .d) s)

/-- `SWAP E` (R407). -/
def execSwapE (s : State) : Result := finish 2 (rotR8 .swap (.reg .e) s)

/-- `SWAP H` (R407). -/
def execSwapH (s : State) : Result := finish 2 (rotR8 .swap (.reg .h) s)

/-- `SWAP L` (R407). -/
def execSwapL (s : State) : Result := finish 2 (rotR8 .swap (.reg .l) s)

/-- `SWAP (HL)` (R407). -/
def execSwapAtHl (s : State) : Result := finish 4 (rotR8 .swap .atHl s)

/-- `SWAP A` (R407). -/
def execSwapA (s : State) : Result := finish 2 (rotR8 .swap (.reg .a) s)

/-- `SRL B` (R408). -/
def execSrlB (s : State) : Result := finish 2 (rotR8 .srl (.reg .b) s)

/-- `SRL C` (R408). -/
def execSrlC (s : State) : Result := finish 2 (rotR8 .srl (.reg .c) s)

/-- `SRL D` (R408). -/
def execSrlD (s : State) : Result := finish 2 (rotR8 .srl (.reg .d) s)

/-- `SRL E` (R408). -/
def execSrlE (s : State) : Result := finish 2 (rotR8 .srl (.reg .e) s)

/-- `SRL H` (R408). -/
def execSrlH (s : State) : Result := finish 2 (rotR8 .srl (.reg .h) s)

/-- `SRL L` (R408). -/
def execSrlL (s : State) : Result := finish 2 (rotR8 .srl (.reg .l) s)

/-- `SRL (HL)` (R408). -/
def execSrlAtHl (s : State) : Result := finish 4 (rotR8 .srl .atHl s)

/-- `SRL A` (R408). -/
def execSrlA (s : State) : Result := finish 2 (rotR8 .srl (.reg .a) s)

/-- `BIT 0,B` (R409). -/
def execBit0B (s : State) : Result := finish 2 (testBitR8 .b0 (.reg .b) s)

/-- `BIT 0,C` (R409). -/
def execBit0C (s : State) : Result := finish 2 (testBitR8 .b0 (.reg .c) s)

/-- `BIT 0,D` (R409). -/
def execBit0D (s : State) : Result := finish 2 (testBitR8 .b0 (.reg .d) s)

/-- `BIT 0,E` (R409). -/
def execBit0E (s : State) : Result := finish 2 (testBitR8 .b0 (.reg .e) s)

/-- `BIT 0,H` (R409). -/
def execBit0H (s : State) : Result := finish 2 (testBitR8 .b0 (.reg .h) s)

/-- `BIT 0,L` (R409). -/
def execBit0L (s : State) : Result := finish 2 (testBitR8 .b0 (.reg .l) s)

/-- `BIT 0,(HL)` (R409). -/
def execBit0AtHl (s : State) : Result := finish 3 (testBitR8 .b0 .atHl s)

/-- `BIT 0,A` (R409). -/
def execBit0A (s : State) : Result := finish 2 (testBitR8 .b0 (.reg .a) s)

/-- `BIT 1,B` (R409). -/
def execBit1B (s : State) : Result := finish 2 (testBitR8 .b1 (.reg .b) s)

/-- `BIT 1,C` (R409). -/
def execBit1C (s : State) : Result := finish 2 (testBitR8 .b1 (.reg .c) s)

/-- `BIT 1,D` (R409). -/
def execBit1D (s : State) : Result := finish 2 (testBitR8 .b1 (.reg .d) s)

/-- `BIT 1,E` (R409). -/
def execBit1E (s : State) : Result := finish 2 (testBitR8 .b1 (.reg .e) s)

/-- `BIT 1,H` (R409). -/
def execBit1H (s : State) : Result := finish 2 (testBitR8 .b1 (.reg .h) s)

/-- `BIT 1,L` (R409). -/
def execBit1L (s : State) : Result := finish 2 (testBitR8 .b1 (.reg .l) s)

/-- `BIT 1,(HL)` (R409). -/
def execBit1AtHl (s : State) : Result := finish 3 (testBitR8 .b1 .atHl s)

/-- `BIT 1,A` (R409). -/
def execBit1A (s : State) : Result := finish 2 (testBitR8 .b1 (.reg .a) s)

/-- `BIT 2,B` (R409). -/
def execBit2B (s : State) : Result := finish 2 (testBitR8 .b2 (.reg .b) s)

/-- `BIT 2,C` (R409). -/
def execBit2C (s : State) : Result := finish 2 (testBitR8 .b2 (.reg .c) s)

/-- `BIT 2,D` (R409). -/
def execBit2D (s : State) : Result := finish 2 (testBitR8 .b2 (.reg .d) s)

/-- `BIT 2,E` (R409). -/
def execBit2E (s : State) : Result := finish 2 (testBitR8 .b2 (.reg .e) s)

/-- `BIT 2,H` (R409). -/
def execBit2H (s : State) : Result := finish 2 (testBitR8 .b2 (.reg .h) s)

/-- `BIT 2,L` (R409). -/
def execBit2L (s : State) : Result := finish 2 (testBitR8 .b2 (.reg .l) s)

/-- `BIT 2,(HL)` (R409). -/
def execBit2AtHl (s : State) : Result := finish 3 (testBitR8 .b2 .atHl s)

/-- `BIT 2,A` (R409). -/
def execBit2A (s : State) : Result := finish 2 (testBitR8 .b2 (.reg .a) s)

/-- `BIT 3,B` (R409). -/
def execBit3B (s : State) : Result := finish 2 (testBitR8 .b3 (.reg .b) s)

/-- `BIT 3,C` (R409). -/
def execBit3C (s : State) : Result := finish 2 (testBitR8 .b3 (.reg .c) s)

/-- `BIT 3,D` (R409). -/
def execBit3D (s : State) : Result := finish 2 (testBitR8 .b3 (.reg .d) s)

/-- `BIT 3,E` (R409). -/
def execBit3E (s : State) : Result := finish 2 (testBitR8 .b3 (.reg .e) s)

/-- `BIT 3,H` (R409). -/
def execBit3H (s : State) : Result := finish 2 (testBitR8 .b3 (.reg .h) s)

/-- `BIT 3,L` (R409). -/
def execBit3L (s : State) : Result := finish 2 (testBitR8 .b3 (.reg .l) s)

/-- `BIT 3,(HL)` (R409). -/
def execBit3AtHl (s : State) : Result := finish 3 (testBitR8 .b3 .atHl s)

/-- `BIT 3,A` (R409). -/
def execBit3A (s : State) : Result := finish 2 (testBitR8 .b3 (.reg .a) s)

/-- `BIT 4,B` (R409). -/
def execBit4B (s : State) : Result := finish 2 (testBitR8 .b4 (.reg .b) s)

/-- `BIT 4,C` (R409). -/
def execBit4C (s : State) : Result := finish 2 (testBitR8 .b4 (.reg .c) s)

/-- `BIT 4,D` (R409). -/
def execBit4D (s : State) : Result := finish 2 (testBitR8 .b4 (.reg .d) s)

/-- `BIT 4,E` (R409). -/
def execBit4E (s : State) : Result := finish 2 (testBitR8 .b4 (.reg .e) s)

/-- `BIT 4,H` (R409). -/
def execBit4H (s : State) : Result := finish 2 (testBitR8 .b4 (.reg .h) s)

/-- `BIT 4,L` (R409). -/
def execBit4L (s : State) : Result := finish 2 (testBitR8 .b4 (.reg .l) s)

/-- `BIT 4,(HL)` (R409). -/
def execBit4AtHl (s : State) : Result := finish 3 (testBitR8 .b4 .atHl s)

/-- `BIT 4,A` (R409). -/
def execBit4A (s : State) : Result := finish 2 (testBitR8 .b4 (.reg .a) s)

/-- `BIT 5,B` (R409). -/
def execBit5B (s : State) : Result := finish 2 (testBitR8 .b5 (.reg .b) s)

/-- `BIT 5,C` (R409). -/
def execBit5C (s : State) : Result := finish 2 (testBitR8 .b5 (.reg .c) s)

/-- `BIT 5,D` (R409). -/
def execBit5D (s : State) : Result := finish 2 (testBitR8 .b5 (.reg .d) s)

/-- `BIT 5,E` (R409). -/
def execBit5E (s : State) : Result := finish 2 (testBitR8 .b5 (.reg .e) s)

/-- `BIT 5,H` (R409). -/
def execBit5H (s : State) : Result := finish 2 (testBitR8 .b5 (.reg .h) s)

/-- `BIT 5,L` (R409). -/
def execBit5L (s : State) : Result := finish 2 (testBitR8 .b5 (.reg .l) s)

/-- `BIT 5,(HL)` (R409). -/
def execBit5AtHl (s : State) : Result := finish 3 (testBitR8 .b5 .atHl s)

/-- `BIT 5,A` (R409). -/
def execBit5A (s : State) : Result := finish 2 (testBitR8 .b5 (.reg .a) s)

/-- `BIT 6,B` (R409). -/
def execBit6B (s : State) : Result := finish 2 (testBitR8 .b6 (.reg .b) s)

/-- `BIT 6,C` (R409). -/
def execBit6C (s : State) : Result := finish 2 (testBitR8 .b6 (.reg .c) s)

/-- `BIT 6,D` (R409). -/
def execBit6D (s : State) : Result := finish 2 (testBitR8 .b6 (.reg .d) s)

/-- `BIT 6,E` (R409). -/
def execBit6E (s : State) : Result := finish 2 (testBitR8 .b6 (.reg .e) s)

/-- `BIT 6,H` (R409). -/
def execBit6H (s : State) : Result := finish 2 (testBitR8 .b6 (.reg .h) s)

/-- `BIT 6,L` (R409). -/
def execBit6L (s : State) : Result := finish 2 (testBitR8 .b6 (.reg .l) s)

/-- `BIT 6,(HL)` (R409). -/
def execBit6AtHl (s : State) : Result := finish 3 (testBitR8 .b6 .atHl s)

/-- `BIT 6,A` (R409). -/
def execBit6A (s : State) : Result := finish 2 (testBitR8 .b6 (.reg .a) s)

/-- `BIT 7,B` (R409). -/
def execBit7B (s : State) : Result := finish 2 (testBitR8 .b7 (.reg .b) s)

/-- `BIT 7,C` (R409). -/
def execBit7C (s : State) : Result := finish 2 (testBitR8 .b7 (.reg .c) s)

/-- `BIT 7,D` (R409). -/
def execBit7D (s : State) : Result := finish 2 (testBitR8 .b7 (.reg .d) s)

/-- `BIT 7,E` (R409). -/
def execBit7E (s : State) : Result := finish 2 (testBitR8 .b7 (.reg .e) s)

/-- `BIT 7,H` (R409). -/
def execBit7H (s : State) : Result := finish 2 (testBitR8 .b7 (.reg .h) s)

/-- `BIT 7,L` (R409). -/
def execBit7L (s : State) : Result := finish 2 (testBitR8 .b7 (.reg .l) s)

/-- `BIT 7,(HL)` (R409). -/
def execBit7AtHl (s : State) : Result := finish 3 (testBitR8 .b7 .atHl s)

/-- `BIT 7,A` (R409). -/
def execBit7A (s : State) : Result := finish 2 (testBitR8 .b7 (.reg .a) s)

/-- `RES 0,B` (R410). -/
def execRes0B (s : State) : Result := finish 2 (resBitR8 .b0 (.reg .b) s)

/-- `RES 0,C` (R410). -/
def execRes0C (s : State) : Result := finish 2 (resBitR8 .b0 (.reg .c) s)

/-- `RES 0,D` (R410). -/
def execRes0D (s : State) : Result := finish 2 (resBitR8 .b0 (.reg .d) s)

/-- `RES 0,E` (R410). -/
def execRes0E (s : State) : Result := finish 2 (resBitR8 .b0 (.reg .e) s)

/-- `RES 0,H` (R410). -/
def execRes0H (s : State) : Result := finish 2 (resBitR8 .b0 (.reg .h) s)

/-- `RES 0,L` (R410). -/
def execRes0L (s : State) : Result := finish 2 (resBitR8 .b0 (.reg .l) s)

/-- `RES 0,(HL)` (R410). -/
def execRes0AtHl (s : State) : Result := finish 4 (resBitR8 .b0 .atHl s)

/-- `RES 0,A` (R410). -/
def execRes0A (s : State) : Result := finish 2 (resBitR8 .b0 (.reg .a) s)

/-- `RES 1,B` (R410). -/
def execRes1B (s : State) : Result := finish 2 (resBitR8 .b1 (.reg .b) s)

/-- `RES 1,C` (R410). -/
def execRes1C (s : State) : Result := finish 2 (resBitR8 .b1 (.reg .c) s)

/-- `RES 1,D` (R410). -/
def execRes1D (s : State) : Result := finish 2 (resBitR8 .b1 (.reg .d) s)

/-- `RES 1,E` (R410). -/
def execRes1E (s : State) : Result := finish 2 (resBitR8 .b1 (.reg .e) s)

/-- `RES 1,H` (R410). -/
def execRes1H (s : State) : Result := finish 2 (resBitR8 .b1 (.reg .h) s)

/-- `RES 1,L` (R410). -/
def execRes1L (s : State) : Result := finish 2 (resBitR8 .b1 (.reg .l) s)

/-- `RES 1,(HL)` (R410). -/
def execRes1AtHl (s : State) : Result := finish 4 (resBitR8 .b1 .atHl s)

/-- `RES 1,A` (R410). -/
def execRes1A (s : State) : Result := finish 2 (resBitR8 .b1 (.reg .a) s)

/-- `RES 2,B` (R410). -/
def execRes2B (s : State) : Result := finish 2 (resBitR8 .b2 (.reg .b) s)

/-- `RES 2,C` (R410). -/
def execRes2C (s : State) : Result := finish 2 (resBitR8 .b2 (.reg .c) s)

/-- `RES 2,D` (R410). -/
def execRes2D (s : State) : Result := finish 2 (resBitR8 .b2 (.reg .d) s)

/-- `RES 2,E` (R410). -/
def execRes2E (s : State) : Result := finish 2 (resBitR8 .b2 (.reg .e) s)

/-- `RES 2,H` (R410). -/
def execRes2H (s : State) : Result := finish 2 (resBitR8 .b2 (.reg .h) s)

/-- `RES 2,L` (R410). -/
def execRes2L (s : State) : Result := finish 2 (resBitR8 .b2 (.reg .l) s)

/-- `RES 2,(HL)` (R410). -/
def execRes2AtHl (s : State) : Result := finish 4 (resBitR8 .b2 .atHl s)

/-- `RES 2,A` (R410). -/
def execRes2A (s : State) : Result := finish 2 (resBitR8 .b2 (.reg .a) s)

/-- `RES 3,B` (R410). -/
def execRes3B (s : State) : Result := finish 2 (resBitR8 .b3 (.reg .b) s)

/-- `RES 3,C` (R410). -/
def execRes3C (s : State) : Result := finish 2 (resBitR8 .b3 (.reg .c) s)

/-- `RES 3,D` (R410). -/
def execRes3D (s : State) : Result := finish 2 (resBitR8 .b3 (.reg .d) s)

/-- `RES 3,E` (R410). -/
def execRes3E (s : State) : Result := finish 2 (resBitR8 .b3 (.reg .e) s)

/-- `RES 3,H` (R410). -/
def execRes3H (s : State) : Result := finish 2 (resBitR8 .b3 (.reg .h) s)

/-- `RES 3,L` (R410). -/
def execRes3L (s : State) : Result := finish 2 (resBitR8 .b3 (.reg .l) s)

/-- `RES 3,(HL)` (R410). -/
def execRes3AtHl (s : State) : Result := finish 4 (resBitR8 .b3 .atHl s)

/-- `RES 3,A` (R410). -/
def execRes3A (s : State) : Result := finish 2 (resBitR8 .b3 (.reg .a) s)

/-- `RES 4,B` (R410). -/
def execRes4B (s : State) : Result := finish 2 (resBitR8 .b4 (.reg .b) s)

/-- `RES 4,C` (R410). -/
def execRes4C (s : State) : Result := finish 2 (resBitR8 .b4 (.reg .c) s)

/-- `RES 4,D` (R410). -/
def execRes4D (s : State) : Result := finish 2 (resBitR8 .b4 (.reg .d) s)

/-- `RES 4,E` (R410). -/
def execRes4E (s : State) : Result := finish 2 (resBitR8 .b4 (.reg .e) s)

/-- `RES 4,H` (R410). -/
def execRes4H (s : State) : Result := finish 2 (resBitR8 .b4 (.reg .h) s)

/-- `RES 4,L` (R410). -/
def execRes4L (s : State) : Result := finish 2 (resBitR8 .b4 (.reg .l) s)

/-- `RES 4,(HL)` (R410). -/
def execRes4AtHl (s : State) : Result := finish 4 (resBitR8 .b4 .atHl s)

/-- `RES 4,A` (R410). -/
def execRes4A (s : State) : Result := finish 2 (resBitR8 .b4 (.reg .a) s)

/-- `RES 5,B` (R410). -/
def execRes5B (s : State) : Result := finish 2 (resBitR8 .b5 (.reg .b) s)

/-- `RES 5,C` (R410). -/
def execRes5C (s : State) : Result := finish 2 (resBitR8 .b5 (.reg .c) s)

/-- `RES 5,D` (R410). -/
def execRes5D (s : State) : Result := finish 2 (resBitR8 .b5 (.reg .d) s)

/-- `RES 5,E` (R410). -/
def execRes5E (s : State) : Result := finish 2 (resBitR8 .b5 (.reg .e) s)

/-- `RES 5,H` (R410). -/
def execRes5H (s : State) : Result := finish 2 (resBitR8 .b5 (.reg .h) s)

/-- `RES 5,L` (R410). -/
def execRes5L (s : State) : Result := finish 2 (resBitR8 .b5 (.reg .l) s)

/-- `RES 5,(HL)` (R410). -/
def execRes5AtHl (s : State) : Result := finish 4 (resBitR8 .b5 .atHl s)

/-- `RES 5,A` (R410). -/
def execRes5A (s : State) : Result := finish 2 (resBitR8 .b5 (.reg .a) s)

/-- `RES 6,B` (R410). -/
def execRes6B (s : State) : Result := finish 2 (resBitR8 .b6 (.reg .b) s)

/-- `RES 6,C` (R410). -/
def execRes6C (s : State) : Result := finish 2 (resBitR8 .b6 (.reg .c) s)

/-- `RES 6,D` (R410). -/
def execRes6D (s : State) : Result := finish 2 (resBitR8 .b6 (.reg .d) s)

/-- `RES 6,E` (R410). -/
def execRes6E (s : State) : Result := finish 2 (resBitR8 .b6 (.reg .e) s)

/-- `RES 6,H` (R410). -/
def execRes6H (s : State) : Result := finish 2 (resBitR8 .b6 (.reg .h) s)

/-- `RES 6,L` (R410). -/
def execRes6L (s : State) : Result := finish 2 (resBitR8 .b6 (.reg .l) s)

/-- `RES 6,(HL)` (R410). -/
def execRes6AtHl (s : State) : Result := finish 4 (resBitR8 .b6 .atHl s)

/-- `RES 6,A` (R410). -/
def execRes6A (s : State) : Result := finish 2 (resBitR8 .b6 (.reg .a) s)

/-- `RES 7,B` (R410). -/
def execRes7B (s : State) : Result := finish 2 (resBitR8 .b7 (.reg .b) s)

/-- `RES 7,C` (R410). -/
def execRes7C (s : State) : Result := finish 2 (resBitR8 .b7 (.reg .c) s)

/-- `RES 7,D` (R410). -/
def execRes7D (s : State) : Result := finish 2 (resBitR8 .b7 (.reg .d) s)

/-- `RES 7,E` (R410). -/
def execRes7E (s : State) : Result := finish 2 (resBitR8 .b7 (.reg .e) s)

/-- `RES 7,H` (R410). -/
def execRes7H (s : State) : Result := finish 2 (resBitR8 .b7 (.reg .h) s)

/-- `RES 7,L` (R410). -/
def execRes7L (s : State) : Result := finish 2 (resBitR8 .b7 (.reg .l) s)

/-- `RES 7,(HL)` (R410). -/
def execRes7AtHl (s : State) : Result := finish 4 (resBitR8 .b7 .atHl s)

/-- `RES 7,A` (R410). -/
def execRes7A (s : State) : Result := finish 2 (resBitR8 .b7 (.reg .a) s)

/-- `SET 0,B` (R411). -/
def execSet0B (s : State) : Result := finish 2 (setBitR8 .b0 (.reg .b) s)

/-- `SET 0,C` (R411). -/
def execSet0C (s : State) : Result := finish 2 (setBitR8 .b0 (.reg .c) s)

/-- `SET 0,D` (R411). -/
def execSet0D (s : State) : Result := finish 2 (setBitR8 .b0 (.reg .d) s)

/-- `SET 0,E` (R411). -/
def execSet0E (s : State) : Result := finish 2 (setBitR8 .b0 (.reg .e) s)

/-- `SET 0,H` (R411). -/
def execSet0H (s : State) : Result := finish 2 (setBitR8 .b0 (.reg .h) s)

/-- `SET 0,L` (R411). -/
def execSet0L (s : State) : Result := finish 2 (setBitR8 .b0 (.reg .l) s)

/-- `SET 0,(HL)` (R411). -/
def execSet0AtHl (s : State) : Result := finish 4 (setBitR8 .b0 .atHl s)

/-- `SET 0,A` (R411). -/
def execSet0A (s : State) : Result := finish 2 (setBitR8 .b0 (.reg .a) s)

/-- `SET 1,B` (R411). -/
def execSet1B (s : State) : Result := finish 2 (setBitR8 .b1 (.reg .b) s)

/-- `SET 1,C` (R411). -/
def execSet1C (s : State) : Result := finish 2 (setBitR8 .b1 (.reg .c) s)

/-- `SET 1,D` (R411). -/
def execSet1D (s : State) : Result := finish 2 (setBitR8 .b1 (.reg .d) s)

/-- `SET 1,E` (R411). -/
def execSet1E (s : State) : Result := finish 2 (setBitR8 .b1 (.reg .e) s)

/-- `SET 1,H` (R411). -/
def execSet1H (s : State) : Result := finish 2 (setBitR8 .b1 (.reg .h) s)

/-- `SET 1,L` (R411). -/
def execSet1L (s : State) : Result := finish 2 (setBitR8 .b1 (.reg .l) s)

/-- `SET 1,(HL)` (R411). -/
def execSet1AtHl (s : State) : Result := finish 4 (setBitR8 .b1 .atHl s)

/-- `SET 1,A` (R411). -/
def execSet1A (s : State) : Result := finish 2 (setBitR8 .b1 (.reg .a) s)

/-- `SET 2,B` (R411). -/
def execSet2B (s : State) : Result := finish 2 (setBitR8 .b2 (.reg .b) s)

/-- `SET 2,C` (R411). -/
def execSet2C (s : State) : Result := finish 2 (setBitR8 .b2 (.reg .c) s)

/-- `SET 2,D` (R411). -/
def execSet2D (s : State) : Result := finish 2 (setBitR8 .b2 (.reg .d) s)

/-- `SET 2,E` (R411). -/
def execSet2E (s : State) : Result := finish 2 (setBitR8 .b2 (.reg .e) s)

/-- `SET 2,H` (R411). -/
def execSet2H (s : State) : Result := finish 2 (setBitR8 .b2 (.reg .h) s)

/-- `SET 2,L` (R411). -/
def execSet2L (s : State) : Result := finish 2 (setBitR8 .b2 (.reg .l) s)

/-- `SET 2,(HL)` (R411). -/
def execSet2AtHl (s : State) : Result := finish 4 (setBitR8 .b2 .atHl s)

/-- `SET 2,A` (R411). -/
def execSet2A (s : State) : Result := finish 2 (setBitR8 .b2 (.reg .a) s)

/-- `SET 3,B` (R411). -/
def execSet3B (s : State) : Result := finish 2 (setBitR8 .b3 (.reg .b) s)

/-- `SET 3,C` (R411). -/
def execSet3C (s : State) : Result := finish 2 (setBitR8 .b3 (.reg .c) s)

/-- `SET 3,D` (R411). -/
def execSet3D (s : State) : Result := finish 2 (setBitR8 .b3 (.reg .d) s)

/-- `SET 3,E` (R411). -/
def execSet3E (s : State) : Result := finish 2 (setBitR8 .b3 (.reg .e) s)

/-- `SET 3,H` (R411). -/
def execSet3H (s : State) : Result := finish 2 (setBitR8 .b3 (.reg .h) s)

/-- `SET 3,L` (R411). -/
def execSet3L (s : State) : Result := finish 2 (setBitR8 .b3 (.reg .l) s)

/-- `SET 3,(HL)` (R411). -/
def execSet3AtHl (s : State) : Result := finish 4 (setBitR8 .b3 .atHl s)

/-- `SET 3,A` (R411). -/
def execSet3A (s : State) : Result := finish 2 (setBitR8 .b3 (.reg .a) s)

/-- `SET 4,B` (R411). -/
def execSet4B (s : State) : Result := finish 2 (setBitR8 .b4 (.reg .b) s)

/-- `SET 4,C` (R411). -/
def execSet4C (s : State) : Result := finish 2 (setBitR8 .b4 (.reg .c) s)

/-- `SET 4,D` (R411). -/
def execSet4D (s : State) : Result := finish 2 (setBitR8 .b4 (.reg .d) s)

/-- `SET 4,E` (R411). -/
def execSet4E (s : State) : Result := finish 2 (setBitR8 .b4 (.reg .e) s)

/-- `SET 4,H` (R411). -/
def execSet4H (s : State) : Result := finish 2 (setBitR8 .b4 (.reg .h) s)

/-- `SET 4,L` (R411). -/
def execSet4L (s : State) : Result := finish 2 (setBitR8 .b4 (.reg .l) s)

/-- `SET 4,(HL)` (R411). -/
def execSet4AtHl (s : State) : Result := finish 4 (setBitR8 .b4 .atHl s)

/-- `SET 4,A` (R411). -/
def execSet4A (s : State) : Result := finish 2 (setBitR8 .b4 (.reg .a) s)

/-- `SET 5,B` (R411). -/
def execSet5B (s : State) : Result := finish 2 (setBitR8 .b5 (.reg .b) s)

/-- `SET 5,C` (R411). -/
def execSet5C (s : State) : Result := finish 2 (setBitR8 .b5 (.reg .c) s)

/-- `SET 5,D` (R411). -/
def execSet5D (s : State) : Result := finish 2 (setBitR8 .b5 (.reg .d) s)

/-- `SET 5,E` (R411). -/
def execSet5E (s : State) : Result := finish 2 (setBitR8 .b5 (.reg .e) s)

/-- `SET 5,H` (R411). -/
def execSet5H (s : State) : Result := finish 2 (setBitR8 .b5 (.reg .h) s)

/-- `SET 5,L` (R411). -/
def execSet5L (s : State) : Result := finish 2 (setBitR8 .b5 (.reg .l) s)

/-- `SET 5,(HL)` (R411). -/
def execSet5AtHl (s : State) : Result := finish 4 (setBitR8 .b5 .atHl s)

/-- `SET 5,A` (R411). -/
def execSet5A (s : State) : Result := finish 2 (setBitR8 .b5 (.reg .a) s)

/-- `SET 6,B` (R411). -/
def execSet6B (s : State) : Result := finish 2 (setBitR8 .b6 (.reg .b) s)

/-- `SET 6,C` (R411). -/
def execSet6C (s : State) : Result := finish 2 (setBitR8 .b6 (.reg .c) s)

/-- `SET 6,D` (R411). -/
def execSet6D (s : State) : Result := finish 2 (setBitR8 .b6 (.reg .d) s)

/-- `SET 6,E` (R411). -/
def execSet6E (s : State) : Result := finish 2 (setBitR8 .b6 (.reg .e) s)

/-- `SET 6,H` (R411). -/
def execSet6H (s : State) : Result := finish 2 (setBitR8 .b6 (.reg .h) s)

/-- `SET 6,L` (R411). -/
def execSet6L (s : State) : Result := finish 2 (setBitR8 .b6 (.reg .l) s)

/-- `SET 6,(HL)` (R411). -/
def execSet6AtHl (s : State) : Result := finish 4 (setBitR8 .b6 .atHl s)

/-- `SET 6,A` (R411). -/
def execSet6A (s : State) : Result := finish 2 (setBitR8 .b6 (.reg .a) s)

/-- `SET 7,B` (R411). -/
def execSet7B (s : State) : Result := finish 2 (setBitR8 .b7 (.reg .b) s)

/-- `SET 7,C` (R411). -/
def execSet7C (s : State) : Result := finish 2 (setBitR8 .b7 (.reg .c) s)

/-- `SET 7,D` (R411). -/
def execSet7D (s : State) : Result := finish 2 (setBitR8 .b7 (.reg .d) s)

/-- `SET 7,E` (R411). -/
def execSet7E (s : State) : Result := finish 2 (setBitR8 .b7 (.reg .e) s)

/-- `SET 7,H` (R411). -/
def execSet7H (s : State) : Result := finish 2 (setBitR8 .b7 (.reg .h) s)

/-- `SET 7,L` (R411). -/
def execSet7L (s : State) : Result := finish 2 (setBitR8 .b7 (.reg .l) s)

/-- `SET 7,(HL)` (R411). -/
def execSet7AtHl (s : State) : Result := finish 4 (setBitR8 .b7 .atHl s)

/-- `SET 7,A` (R411). -/
def execSet7A (s : State) : Result := finish 2 (setBitR8 .b7 (.reg .a) s)

end Sys2Proof.Machine
end

