-- ==== Sys2Proof/Machine/Control.lean ====
section
/-! DEFINITION. Jumps, calls, returns and restarts (45_control.md R430-R444).
One meaning per instruction, over the shared operations of Machine/Operands.lean. PC is already past the instruction
(40_step.md R255); the number is the cycle count of R258. -/

namespace Sys2Proof.Machine

/-- `JR e8` (R434). -/
def execJrE8 (e : Byte) (s : State) : Result := finish 3 (jumpRel e s)

/-- `JR NZ,e8` (R435). -/
def execJrNzE8 (e : Byte) (s : State) : Result := branch .nz 2 3 (jumpRel e) s

/-- `JR Z,e8` (R435). -/
def execJrZE8 (e : Byte) (s : State) : Result := branch .z 2 3 (jumpRel e) s

/-- `JR NC,e8` (R435). -/
def execJrNcE8 (e : Byte) (s : State) : Result := branch .nc 2 3 (jumpRel e) s

/-- `JR C,e8` (R435). -/
def execJrCE8 (e : Byte) (s : State) : Result := branch .c 2 3 (jumpRel e) s

/-- `RET NZ` (R439). -/
def execRetNz (s : State) : Result := branch .nz 2 5 popPc s

/-- `JP NZ,n16` (R432). -/
def execJpNzN16 (n : Word) (s : State) : Result := branch .nz 3 4 (fun t => t.setPc n) s

/-- `JP n16` (R431). -/
def execJpN16 (n : Word) (s : State) : Result := finish 4 (s.setPc n)

/-- `CALL NZ,n16` (R437). -/
def execCallNzN16 (n : Word) (s : State) : Result := branch .nz 3 6 (call n) s

/-- `RST 0x00` (R440). -/
def execRst00 (s : State) : Result := finish 4 (call (rstAddress .t00) s)

/-- `RET Z` (R439). -/
def execRetZ (s : State) : Result := branch .z 2 5 popPc s

/-- `RET` (R438). -/
def execRet (s : State) : Result := finish 4 (popPc s)

/-- `JP Z,n16` (R432). -/
def execJpZN16 (n : Word) (s : State) : Result := branch .z 3 4 (fun t => t.setPc n) s

/-- `CALL Z,n16` (R437). -/
def execCallZN16 (n : Word) (s : State) : Result := branch .z 3 6 (call n) s

/-- `CALL n16` (R436). -/
def execCallN16 (n : Word) (s : State) : Result := finish 6 (call n s)

/-- `RST 0x08` (R440). -/
def execRst08 (s : State) : Result := finish 4 (call (rstAddress .t08) s)

/-- `RET NC` (R439). -/
def execRetNc (s : State) : Result := branch .nc 2 5 popPc s

/-- `JP NC,n16` (R432). -/
def execJpNcN16 (n : Word) (s : State) : Result := branch .nc 3 4 (fun t => t.setPc n) s

/-- `CALL NC,n16` (R437). -/
def execCallNcN16 (n : Word) (s : State) : Result := branch .nc 3 6 (call n) s

/-- `RST 0x10` (R440). -/
def execRst10 (s : State) : Result := finish 4 (call (rstAddress .t10) s)

/-- `RET C` (R439). -/
def execRetC (s : State) : Result := branch .c 2 5 popPc s

/-- `RETI` (R444). -/
def execReti (s : State) : Result := finish 4 (returnInterrupt s)

/-- `JP C,n16` (R432). -/
def execJpCN16 (n : Word) (s : State) : Result := branch .c 3 4 (fun t => t.setPc n) s

/-- `CALL C,n16` (R437). -/
def execCallCN16 (n : Word) (s : State) : Result := branch .c 3 6 (call n) s

/-- `RST 0x18` (R440). -/
def execRst18 (s : State) : Result := finish 4 (call (rstAddress .t18) s)

/-- `RST 0x20` (R440). -/
def execRst20 (s : State) : Result := finish 4 (call (rstAddress .t20) s)

/-- `JP HL` (R433). -/
def execJpHl (s : State) : Result := finish 1 (s.setPc s.cpu.hl)

/-- `RST 0x28` (R440). -/
def execRst28 (s : State) : Result := finish 4 (call (rstAddress .t28) s)

/-- `RST 0x30` (R440). -/
def execRst30 (s : State) : Result := finish 4 (call (rstAddress .t30) s)

/-- `RST 0x38` (R440). -/
def execRst38 (s : State) : Result := finish 4 (call (rstAddress .t38) s)

end Sys2Proof.Machine
end

