-- ==== Sys2Proof/Machine/Load.lean ====
section
/-! DEFINITION. Loads, stores and the stack (41_load.md R280-R304).
One meaning per instruction, over the shared operations of Machine/Operands.lean. PC is already past the instruction
(40_step.md R255); the number is the cycle count of R258. -/

namespace Sys2Proof.Machine

/-- `LD BC,n16` (R300). -/
def execLdBcN16 (n : Word) (s : State) : Result := finish 3 (loadR16 .bc n s)

/-- `LD (BC),A` (R288). -/
def execLdAtBcA (s : State) : Result := finish 2 (storeAcc .bc s)

/-- `LD B,n8` (R284). -/
def execLdBN8 (n : Byte) (s : State) : Result := finish 2 (writeR8 s (.reg .b) n)

/-- `LD (n16),SP` (R301). -/
def execLdAtN16Sp (n : Word) (s : State) : Result := finish 5 (storeSp n s)

/-- `LD A,(BC)` (R286). -/
def execLdAAtBc (s : State) : Result := finish 2 (loadAcc .bc s)

/-- `LD C,n8` (R284). -/
def execLdCN8 (n : Byte) (s : State) : Result := finish 2 (writeR8 s (.reg .c) n)

/-- `LD DE,n16` (R300). -/
def execLdDeN16 (n : Word) (s : State) : Result := finish 3 (loadR16 .de n s)

/-- `LD (DE),A` (R289). -/
def execLdAtDeA (s : State) : Result := finish 2 (storeAcc .de s)

/-- `LD D,n8` (R284). -/
def execLdDN8 (n : Byte) (s : State) : Result := finish 2 (writeR8 s (.reg .d) n)

/-- `LD A,(DE)` (R287). -/
def execLdAAtDe (s : State) : Result := finish 2 (loadAcc .de s)

/-- `LD E,n8` (R284). -/
def execLdEN8 (n : Byte) (s : State) : Result := finish 2 (writeR8 s (.reg .e) n)

/-- `LD HL,n16` (R300). -/
def execLdHlN16 (n : Word) (s : State) : Result := finish 3 (loadR16 .hl n s)

/-- `LD (HL+),A` (R290). -/
def execLdAtHlIncA (s : State) : Result := finish 2 (storeAcc .hlInc s)

/-- `LD H,n8` (R284). -/
def execLdHN8 (n : Byte) (s : State) : Result := finish 2 (writeR8 s (.reg .h) n)

/-- `LD A,(HL+)` (R292). -/
def execLdAAtHlInc (s : State) : Result := finish 2 (loadAcc .hlInc s)

/-- `LD L,n8` (R284). -/
def execLdLN8 (n : Byte) (s : State) : Result := finish 2 (writeR8 s (.reg .l) n)

/-- `LD SP,n16` (R300). -/
def execLdSpN16 (n : Word) (s : State) : Result := finish 3 (loadR16 .sp n s)

/-- `LD (HL-),A` (R291). -/
def execLdAtHlDecA (s : State) : Result := finish 2 (storeAcc .hlDec s)

/-- `LD (HL),n8` (R285). -/
def execLdAtHlN8 (n : Byte) (s : State) : Result := finish 3 (writeR8 s .atHl n)

/-- `LD A,(HL-)` (R293). -/
def execLdAAtHlDec (s : State) : Result := finish 2 (loadAcc .hlDec s)

/-- `LD A,n8` (R284). -/
def execLdAN8 (n : Byte) (s : State) : Result := finish 2 (writeR8 s (.reg .a) n)

/-- `LD B,B` (R281). -/
def execLdBB (s : State) : Result := finish 1 (loadR8 (.reg .b) (.reg .b) s)

/-- `LD B,C` (R281). -/
def execLdBC (s : State) : Result := finish 1 (loadR8 (.reg .b) (.reg .c) s)

/-- `LD B,D` (R281). -/
def execLdBD (s : State) : Result := finish 1 (loadR8 (.reg .b) (.reg .d) s)

/-- `LD B,E` (R281). -/
def execLdBE (s : State) : Result := finish 1 (loadR8 (.reg .b) (.reg .e) s)

/-- `LD B,H` (R281). -/
def execLdBH (s : State) : Result := finish 1 (loadR8 (.reg .b) (.reg .h) s)

/-- `LD B,L` (R281). -/
def execLdBL (s : State) : Result := finish 1 (loadR8 (.reg .b) (.reg .l) s)

/-- `LD B,(HL)` (R282). -/
def execLdBAtHl (s : State) : Result := finish 2 (loadR8 (.reg .b) .atHl s)

/-- `LD B,A` (R281). -/
def execLdBA (s : State) : Result := finish 1 (loadR8 (.reg .b) (.reg .a) s)

/-- `LD C,B` (R281). -/
def execLdCB (s : State) : Result := finish 1 (loadR8 (.reg .c) (.reg .b) s)

/-- `LD C,C` (R281). -/
def execLdCC (s : State) : Result := finish 1 (loadR8 (.reg .c) (.reg .c) s)

/-- `LD C,D` (R281). -/
def execLdCD (s : State) : Result := finish 1 (loadR8 (.reg .c) (.reg .d) s)

/-- `LD C,E` (R281). -/
def execLdCE (s : State) : Result := finish 1 (loadR8 (.reg .c) (.reg .e) s)

/-- `LD C,H` (R281). -/
def execLdCH (s : State) : Result := finish 1 (loadR8 (.reg .c) (.reg .h) s)

/-- `LD C,L` (R281). -/
def execLdCL (s : State) : Result := finish 1 (loadR8 (.reg .c) (.reg .l) s)

/-- `LD C,(HL)` (R282). -/
def execLdCAtHl (s : State) : Result := finish 2 (loadR8 (.reg .c) .atHl s)

/-- `LD C,A` (R281). -/
def execLdCA (s : State) : Result := finish 1 (loadR8 (.reg .c) (.reg .a) s)

/-- `LD D,B` (R281). -/
def execLdDB (s : State) : Result := finish 1 (loadR8 (.reg .d) (.reg .b) s)

/-- `LD D,C` (R281). -/
def execLdDC (s : State) : Result := finish 1 (loadR8 (.reg .d) (.reg .c) s)

/-- `LD D,D` (R281). -/
def execLdDD (s : State) : Result := finish 1 (loadR8 (.reg .d) (.reg .d) s)

/-- `LD D,E` (R281). -/
def execLdDE (s : State) : Result := finish 1 (loadR8 (.reg .d) (.reg .e) s)

/-- `LD D,H` (R281). -/
def execLdDH (s : State) : Result := finish 1 (loadR8 (.reg .d) (.reg .h) s)

/-- `LD D,L` (R281). -/
def execLdDL (s : State) : Result := finish 1 (loadR8 (.reg .d) (.reg .l) s)

/-- `LD D,(HL)` (R282). -/
def execLdDAtHl (s : State) : Result := finish 2 (loadR8 (.reg .d) .atHl s)

/-- `LD D,A` (R281). -/
def execLdDA (s : State) : Result := finish 1 (loadR8 (.reg .d) (.reg .a) s)

/-- `LD E,B` (R281). -/
def execLdEB (s : State) : Result := finish 1 (loadR8 (.reg .e) (.reg .b) s)

/-- `LD E,C` (R281). -/
def execLdEC (s : State) : Result := finish 1 (loadR8 (.reg .e) (.reg .c) s)

/-- `LD E,D` (R281). -/
def execLdED (s : State) : Result := finish 1 (loadR8 (.reg .e) (.reg .d) s)

/-- `LD E,E` (R281). -/
def execLdEE (s : State) : Result := finish 1 (loadR8 (.reg .e) (.reg .e) s)

/-- `LD E,H` (R281). -/
def execLdEH (s : State) : Result := finish 1 (loadR8 (.reg .e) (.reg .h) s)

/-- `LD E,L` (R281). -/
def execLdEL (s : State) : Result := finish 1 (loadR8 (.reg .e) (.reg .l) s)

/-- `LD E,(HL)` (R282). -/
def execLdEAtHl (s : State) : Result := finish 2 (loadR8 (.reg .e) .atHl s)

/-- `LD E,A` (R281). -/
def execLdEA (s : State) : Result := finish 1 (loadR8 (.reg .e) (.reg .a) s)

/-- `LD H,B` (R281). -/
def execLdHB (s : State) : Result := finish 1 (loadR8 (.reg .h) (.reg .b) s)

/-- `LD H,C` (R281). -/
def execLdHC (s : State) : Result := finish 1 (loadR8 (.reg .h) (.reg .c) s)

/-- `LD H,D` (R281). -/
def execLdHD (s : State) : Result := finish 1 (loadR8 (.reg .h) (.reg .d) s)

/-- `LD H,E` (R281). -/
def execLdHE (s : State) : Result := finish 1 (loadR8 (.reg .h) (.reg .e) s)

/-- `LD H,H` (R281). -/
def execLdHH (s : State) : Result := finish 1 (loadR8 (.reg .h) (.reg .h) s)

/-- `LD H,L` (R281). -/
def execLdHL (s : State) : Result := finish 1 (loadR8 (.reg .h) (.reg .l) s)

/-- `LD H,(HL)` (R282). -/
def execLdHAtHl (s : State) : Result := finish 2 (loadR8 (.reg .h) .atHl s)

/-- `LD H,A` (R281). -/
def execLdHA (s : State) : Result := finish 1 (loadR8 (.reg .h) (.reg .a) s)

/-- `LD L,B` (R281). -/
def execLdLB (s : State) : Result := finish 1 (loadR8 (.reg .l) (.reg .b) s)

/-- `LD L,C` (R281). -/
def execLdLC (s : State) : Result := finish 1 (loadR8 (.reg .l) (.reg .c) s)

/-- `LD L,D` (R281). -/
def execLdLD (s : State) : Result := finish 1 (loadR8 (.reg .l) (.reg .d) s)

/-- `LD L,E` (R281). -/
def execLdLE (s : State) : Result := finish 1 (loadR8 (.reg .l) (.reg .e) s)

/-- `LD L,H` (R281). -/
def execLdLH (s : State) : Result := finish 1 (loadR8 (.reg .l) (.reg .h) s)

/-- `LD L,L` (R281). -/
def execLdLL (s : State) : Result := finish 1 (loadR8 (.reg .l) (.reg .l) s)

/-- `LD L,(HL)` (R282). -/
def execLdLAtHl (s : State) : Result := finish 2 (loadR8 (.reg .l) .atHl s)

/-- `LD L,A` (R281). -/
def execLdLA (s : State) : Result := finish 1 (loadR8 (.reg .l) (.reg .a) s)

/-- `LD (HL),B` (R283). -/
def execLdAtHlB (s : State) : Result := finish 2 (loadR8 .atHl (.reg .b) s)

/-- `LD (HL),C` (R283). -/
def execLdAtHlC (s : State) : Result := finish 2 (loadR8 .atHl (.reg .c) s)

/-- `LD (HL),D` (R283). -/
def execLdAtHlD (s : State) : Result := finish 2 (loadR8 .atHl (.reg .d) s)

/-- `LD (HL),E` (R283). -/
def execLdAtHlE (s : State) : Result := finish 2 (loadR8 .atHl (.reg .e) s)

/-- `LD (HL),H` (R283). -/
def execLdAtHlH (s : State) : Result := finish 2 (loadR8 .atHl (.reg .h) s)

/-- `LD (HL),L` (R283). -/
def execLdAtHlL (s : State) : Result := finish 2 (loadR8 .atHl (.reg .l) s)

/-- `LD (HL),A` (R283). -/
def execLdAtHlA (s : State) : Result := finish 2 (loadR8 .atHl (.reg .a) s)

/-- `LD A,B` (R281). -/
def execLdAB (s : State) : Result := finish 1 (loadR8 (.reg .a) (.reg .b) s)

/-- `LD A,C` (R281). -/
def execLdAC (s : State) : Result := finish 1 (loadR8 (.reg .a) (.reg .c) s)

/-- `LD A,D` (R281). -/
def execLdAD (s : State) : Result := finish 1 (loadR8 (.reg .a) (.reg .d) s)

/-- `LD A,E` (R281). -/
def execLdAE (s : State) : Result := finish 1 (loadR8 (.reg .a) (.reg .e) s)

/-- `LD A,H` (R281). -/
def execLdAH (s : State) : Result := finish 1 (loadR8 (.reg .a) (.reg .h) s)

/-- `LD A,L` (R281). -/
def execLdAL (s : State) : Result := finish 1 (loadR8 (.reg .a) (.reg .l) s)

/-- `LD A,(HL)` (R282). -/
def execLdAAtHl (s : State) : Result := finish 2 (loadR8 (.reg .a) .atHl s)

/-- `LD A,A` (R281). -/
def execLdAA (s : State) : Result := finish 1 (loadR8 (.reg .a) (.reg .a) s)

/-- `POP BC` (R303). -/
def execPopBc (s : State) : Result := finish 3 (popPair .bc s)

/-- `PUSH BC` (R304). -/
def execPushBc (s : State) : Result := finish 4 (pushPair .bc s)

/-- `POP DE` (R303). -/
def execPopDe (s : State) : Result := finish 3 (popPair .de s)

/-- `PUSH DE` (R304). -/
def execPushDe (s : State) : Result := finish 4 (pushPair .de s)

/-- `LDH (n8),A` (R297). -/
def execLdhAtN8A (n : Byte) (s : State) : Result := finish 3 (storeAccAt (highPage n) s)

/-- `POP HL` (R303). -/
def execPopHl (s : State) : Result := finish 3 (popPair .hl s)

/-- `LDH (C),A` (R299). -/
def execLdhAtCA (s : State) : Result := finish 2 (storeAccAt (highPage s.cpu.c) s)

/-- `PUSH HL` (R304). -/
def execPushHl (s : State) : Result := finish 4 (pushPair .hl s)

/-- `LD (n16),A` (R295). -/
def execLdAtN16A (n : Word) (s : State) : Result := finish 4 (storeAccAt n s)

/-- `LDH A,(n8)` (R296). -/
def execLdhAAtN8 (n : Byte) (s : State) : Result := finish 3 (loadAccAt (highPage n) s)

/-- `POP AF` (R303). -/
def execPopAf (s : State) : Result := finish 3 (popPair .af s)

/-- `LDH A,(C)` (R298). -/
def execLdhAAtC (s : State) : Result := finish 2 (loadAccAt (highPage s.cpu.c) s)

/-- `PUSH AF` (R304). -/
def execPushAf (s : State) : Result := finish 4 (pushPair .af s)

/-- `LD SP,HL` (R302). -/
def execLdSpHl (s : State) : Result := finish 2 (s.setSp s.cpu.hl)

/-- `LD A,(n16)` (R294). -/
def execLdAAtN16 (n : Word) (s : State) : Result := finish 4 (loadAccAt n s)

end Sys2Proof.Machine
end

