-- ==== Sys2Proof/Syntax.lean ====
section
/-! DEFINITION. The instructions: one constructor per row of spec/opcode_table.json, those with operand bytes first
(30_encoding.md R200-R219). A field is an operand byte or word that follows the opcode (R209): `n` an unsigned
immediate, `e` a signed offset byte, `x` the ignored byte of STOP (R219). -/

namespace Sys2Proof

/-- One instruction. `prefixCb` is the row of the byte 0xCB (46_system.md R467): "0xCB is not an instruction by itself",
so `WellFormed` refuses it and `decode` never gives it (log 9). -/
inductive Instr where
  | ldBcN16 (n : Word)
  | ldBN8 (n : Byte)
  | ldAtN16Sp (n : Word)
  | ldCN8 (n : Byte)
  | stop (x : Byte)
  | ldDeN16 (n : Word)
  | ldDN8 (n : Byte)
  | jrE8 (e : Byte)
  | ldEN8 (n : Byte)
  | jrNzE8 (e : Byte)
  | ldHlN16 (n : Word)
  | ldHN8 (n : Byte)
  | jrZE8 (e : Byte)
  | ldLN8 (n : Byte)
  | jrNcE8 (e : Byte)
  | ldSpN16 (n : Word)
  | ldAtHlN8 (n : Byte)
  | jrCE8 (e : Byte)
  | ldAN8 (n : Byte)
  | jpNzN16 (n : Word)
  | jpN16 (n : Word)
  | callNzN16 (n : Word)
  | addAN8 (n : Byte)
  | jpZN16 (n : Word)
  | prefixCb (op2 : Byte)
  | callZN16 (n : Word)
  | callN16 (n : Word)
  | adcAN8 (n : Byte)
  | jpNcN16 (n : Word)
  | callNcN16 (n : Word)
  | subAN8 (n : Byte)
  | jpCN16 (n : Word)
  | callCN16 (n : Word)
  | sbcAN8 (n : Byte)
  | ldhAtN8A (n : Byte)
  | andAN8 (n : Byte)
  | addSpE8 (e : Byte)
  | ldAtN16A (n : Word)
  | xorAN8 (n : Byte)
  | ldhAAtN8 (n : Byte)
  | orAN8 (n : Byte)
  | ldHlSpE8 (e : Byte)
  | ldAAtN16 (n : Word)
  | cpAN8 (n : Byte)
  | nop
  | ldAtBcA
  | incBc
  | incB
  | decB
  | rlca
  | addHlBc
  | ldAAtBc
  | decBc
  | incC
  | decC
  | rrca
  | ldAtDeA
  | incDe
  | incD
  | decD
  | rla
  | addHlDe
  | ldAAtDe
  | decDe
  | incE
  | decE
  | rra
  | ldAtHlIncA
  | incHl
  | incH
  | decH
  | daa
  | addHlHl
  | ldAAtHlInc
  | decHl
  | incL
  | decL
  | cpl
  | ldAtHlDecA
  | incSp
  | incAtHl
  | decAtHl
  | scf
  | addHlSp
  | ldAAtHlDec
  | decSp
  | incA
  | decA
  | ccf
  | ldBB
  | ldBC
  | ldBD
  | ldBE
  | ldBH
  | ldBL
  | ldBAtHl
  | ldBA
  | ldCB
  | ldCC
  | ldCD
  | ldCE
  | ldCH
  | ldCL
  | ldCAtHl
  | ldCA
  | ldDB
  | ldDC
  | ldDD
  | ldDE
  | ldDH
  | ldDL
  | ldDAtHl
  | ldDA
  | ldEB
  | ldEC
  | ldED
  | ldEE
  | ldEH
  | ldEL
  | ldEAtHl
  | ldEA
  | ldHB
  | ldHC
  | ldHD
  | ldHE
  | ldHH
  | ldHL
  | ldHAtHl
  | ldHA
  | ldLB
  | ldLC
  | ldLD
  | ldLE
  | ldLH
  | ldLL
  | ldLAtHl
  | ldLA
  | ldAtHlB
  | ldAtHlC
  | ldAtHlD
  | ldAtHlE
  | ldAtHlH
  | ldAtHlL
  | halt
  | ldAtHlA
  | ldAB
  | ldAC
  | ldAD
  | ldAE
  | ldAH
  | ldAL
  | ldAAtHl
  | ldAA
  | addAB
  | addAC
  | addAD
  | addAE
  | addAH
  | addAL
  | addAAtHl
  | addAA
  | adcAB
  | adcAC
  | adcAD
  | adcAE
  | adcAH
  | adcAL
  | adcAAtHl
  | adcAA
  | subAB
  | subAC
  | subAD
  | subAE
  | subAH
  | subAL
  | subAAtHl
  | subAA
  | sbcAB
  | sbcAC
  | sbcAD
  | sbcAE
  | sbcAH
  | sbcAL
  | sbcAAtHl
  | sbcAA
  | andAB
  | andAC
  | andAD
  | andAE
  | andAH
  | andAL
  | andAAtHl
  | andAA
  | xorAB
  | xorAC
  | xorAD
  | xorAE
  | xorAH
  | xorAL
  | xorAAtHl
  | xorAA
  | orAB
  | orAC
  | orAD
  | orAE
  | orAH
  | orAL
  | orAAtHl
  | orAA
  | cpAB
  | cpAC
  | cpAD
  | cpAE
  | cpAH
  | cpAL
  | cpAAtHl
  | cpAA
  | retNz
  | popBc
  | pushBc
  | rst00
  | retZ
  | ret
  | rst08
  | retNc
  | popDe
  | illegalD3
  | pushDe
  | rst10
  | retC
  | reti
  | illegalDB
  | illegalDD
  | rst18
  | popHl
  | ldhAtCA
  | illegalE3
  | illegalE4
  | pushHl
  | rst20
  | jpHl
  | illegalEB
  | illegalEC
  | illegalED
  | rst28
  | popAf
  | ldhAAtC
  | di
  | illegalF4
  | pushAf
  | rst30
  | ldSpHl
  | ei
  | illegalFC
  | illegalFD
  | rst38
  | rlcB
  | rlcC
  | rlcD
  | rlcE
  | rlcH
  | rlcL
  | rlcAtHl
  | rlcA
  | rrcB
  | rrcC
  | rrcD
  | rrcE
  | rrcH
  | rrcL
  | rrcAtHl
  | rrcA
  | rlB
  | rlC
  | rlD
  | rlE
  | rlH
  | rlL
  | rlAtHl
  | rlA
  | rrB
  | rrC
  | rrD
  | rrE
  | rrH
  | rrL
  | rrAtHl
  | rrA
  | slaB
  | slaC
  | slaD
  | slaE
  | slaH
  | slaL
  | slaAtHl
  | slaA
  | sraB
  | sraC
  | sraD
  | sraE
  | sraH
  | sraL
  | sraAtHl
  | sraA
  | swapB
  | swapC
  | swapD
  | swapE
  | swapH
  | swapL
  | swapAtHl
  | swapA
  | srlB
  | srlC
  | srlD
  | srlE
  | srlH
  | srlL
  | srlAtHl
  | srlA
  | bit0B
  | bit0C
  | bit0D
  | bit0E
  | bit0H
  | bit0L
  | bit0AtHl
  | bit0A
  | bit1B
  | bit1C
  | bit1D
  | bit1E
  | bit1H
  | bit1L
  | bit1AtHl
  | bit1A
  | bit2B
  | bit2C
  | bit2D
  | bit2E
  | bit2H
  | bit2L
  | bit2AtHl
  | bit2A
  | bit3B
  | bit3C
  | bit3D
  | bit3E
  | bit3H
  | bit3L
  | bit3AtHl
  | bit3A
  | bit4B
  | bit4C
  | bit4D
  | bit4E
  | bit4H
  | bit4L
  | bit4AtHl
  | bit4A
  | bit5B
  | bit5C
  | bit5D
  | bit5E
  | bit5H
  | bit5L
  | bit5AtHl
  | bit5A
  | bit6B
  | bit6C
  | bit6D
  | bit6E
  | bit6H
  | bit6L
  | bit6AtHl
  | bit6A
  | bit7B
  | bit7C
  | bit7D
  | bit7E
  | bit7H
  | bit7L
  | bit7AtHl
  | bit7A
  | res0B
  | res0C
  | res0D
  | res0E
  | res0H
  | res0L
  | res0AtHl
  | res0A
  | res1B
  | res1C
  | res1D
  | res1E
  | res1H
  | res1L
  | res1AtHl
  | res1A
  | res2B
  | res2C
  | res2D
  | res2E
  | res2H
  | res2L
  | res2AtHl
  | res2A
  | res3B
  | res3C
  | res3D
  | res3E
  | res3H
  | res3L
  | res3AtHl
  | res3A
  | res4B
  | res4C
  | res4D
  | res4E
  | res4H
  | res4L
  | res4AtHl
  | res4A
  | res5B
  | res5C
  | res5D
  | res5E
  | res5H
  | res5L
  | res5AtHl
  | res5A
  | res6B
  | res6C
  | res6D
  | res6E
  | res6H
  | res6L
  | res6AtHl
  | res6A
  | res7B
  | res7C
  | res7D
  | res7E
  | res7H
  | res7L
  | res7AtHl
  | res7A
  | set0B
  | set0C
  | set0D
  | set0E
  | set0H
  | set0L
  | set0AtHl
  | set0A
  | set1B
  | set1C
  | set1D
  | set1E
  | set1H
  | set1L
  | set1AtHl
  | set1A
  | set2B
  | set2C
  | set2D
  | set2E
  | set2H
  | set2L
  | set2AtHl
  | set2A
  | set3B
  | set3C
  | set3D
  | set3E
  | set3H
  | set3L
  | set3AtHl
  | set3A
  | set4B
  | set4C
  | set4D
  | set4E
  | set4H
  | set4L
  | set4AtHl
  | set4A
  | set5B
  | set5C
  | set5D
  | set5E
  | set5H
  | set5L
  | set5AtHl
  | set5A
  | set6B
  | set6C
  | set6D
  | set6E
  | set6H
  | set6L
  | set6AtHl
  | set6A
  | set7B
  | set7C
  | set7D
  | set7E
  | set7H
  | set7L
  | set7AtHl
  | set7A
deriving DecidableEq, Repr

end Sys2Proof
end

