-- ==== Sys2Proof/WellFormed.lean ====
section
/-! DEFINITION. Which instructions are well formed. Every field of every constructor holds exactly the values its encoding
admits (30_encoding.md R203-R209), so one check is left: the byte 0xCB alone is no instruction (46_system.md R467). -/

namespace Sys2Proof

/-- "0xCB is not an instruction by itself" (R467): the prefix row's constructor is ill formed. -/
def isLonePrefix (i : Instr) : Bool :=
  match i with
  | .prefixCb _ => true
  | _ => false

/-- The instruction can stand in a program. -/
def WellFormed (i : Instr) : Bool := !isLonePrefix i

end Sys2Proof
end

