-- ==== Sys2Proof/Decode.lean ====
section
/-! DEFINITION. The decoder, total on any bytes (30_encoding.md R200-R221), and the encoder. The decoder follows the
fields of R201-R215; the encoder lists the opcode of every row of the map R216. -/

namespace Sys2Proof

/-- R203. -/
def r8OfCode (k : Nat) : R8 :=
  match k with
  | 0 => .reg .b
  | 1 => .reg .c
  | 2 => .reg .d
  | 3 => .reg .e
  | 4 => .reg .h
  | 5 => .reg .l
  | 6 => .atHl
  | _ => .reg .a

/-- R204. -/
def r16OfCode (k : Nat) : R16 :=
  match k with
  | 0 => .bc
  | 1 => .de
  | 2 => .hl
  | _ => .sp

/-- R205: a table of its own, not R204's. -/
def r16StkOfCode (k : Nat) : R16Stk :=
  match k with
  | 0 => .bc
  | 1 => .de
  | 2 => .hl
  | _ => .af

/-- R206. -/
def r16MemOfCode (k : Nat) : R16Mem :=
  match k with
  | 0 => .bc
  | 1 => .de
  | 2 => .hlInc
  | _ => .hlDec

/-- R207. -/
def condOfCode (k : Nat) : Cond :=
  match k with
  | 0 => .nz
  | 1 => .z
  | 2 => .nc
  | _ => .c

/-- R225. -/
def aluOfCode (k : Nat) : AluOp :=
  match k with
  | 0 => .add
  | 1 => .adc
  | 2 => .sub
  | 3 => .sbc
  | 4 => .and
  | 5 => .xor
  | 6 => .or
  | _ => .cp

/-- R210. -/
def rotOfCode (k : Nat) : RotOp :=
  match k with
  | 0 => .rlc
  | 1 => .rrc
  | 2 => .rl
  | 3 => .rr
  | 4 => .sla
  | 5 => .sra
  | 6 => .swap
  | _ => .srl

/-- R211, z = 7. -/
def accOfCode (k : Nat) : AccOp :=
  match k with
  | 0 => .rlca
  | 1 => .rrca
  | 2 => .rla
  | 3 => .rra
  | 4 => .daa
  | 5 => .cpl
  | 6 => .scf
  | _ => .ccf

/-- R202, the field bbb of format cb_bit. -/
def bitOfCode (k : Nat) : BitIx :=
  match k with
  | 0 => .b0
  | 1 => .b1
  | 2 => .b2
  | 3 => .b3
  | 4 => .b4
  | 5 => .b5
  | 6 => .b6
  | _ => .b7

/-- R208. -/
def rstOfCode (k : Nat) : RstTarget :=
  match k with
  | 0 => .t00
  | 1 => .t08
  | 2 => .t10
  | 3 => .t18
  | 4 => .t20
  | 5 => .t28
  | 6 => .t30
  | _ => .t38

/-- The code of an operand in the table of R203. -/
def codeOfR8 (v : R8) : BitVec 3 :=
  match v with
  | .reg .b => 0
  | .reg .c => 1
  | .reg .d => 2
  | .reg .e => 3
  | .reg .h => 4
  | .reg .l => 5
  | .atHl => 6
  | .reg .a => 7

/-- The code of a pair in the table of R204. -/
def codeOfR16 (v : R16) : BitVec 2 :=
  match v with
  | .bc => 0
  | .de => 1
  | .hl => 2
  | .sp => 3

/-- The code of a pair in the table of R205. -/
def codeOfR16Stk (v : R16Stk) : BitVec 2 :=
  match v with
  | .bc => 0
  | .de => 1
  | .hl => 2
  | .af => 3

/-- The code of an address pair in the table of R206. -/
def codeOfR16Mem (v : R16Mem) : BitVec 2 :=
  match v with
  | .bc => 0
  | .de => 1
  | .hlInc => 2
  | .hlDec => 3

/-- The code of a condition in the table of R207. -/
def codeOfCond (v : Cond) : BitVec 2 :=
  match v with
  | .nz => 0
  | .z => 1
  | .nc => 2
  | .c => 3

/-- The code of an ALU operation in the table of R225. -/
def codeOfAlu (v : AluOp) : BitVec 3 :=
  match v with
  | .add => 0
  | .adc => 1
  | .sub => 2
  | .sbc => 3
  | .and => 4
  | .xor => 5
  | .or => 6
  | .cp => 7

/-- The code of a shift or rotate in the table of R210. -/
def codeOfRot (v : RotOp) : BitVec 3 :=
  match v with
  | .rlc => 0
  | .rrc => 1
  | .rl => 2
  | .rr => 3
  | .sla => 4
  | .sra => 5
  | .swap => 6
  | .srl => 7

/-- The code of a bit number (R202, format cb_bit). -/
def codeOfBit (v : BitIx) : BitVec 3 :=
  match v with
  | .b0 => 0
  | .b1 => 1
  | .b2 => 2
  | .b3 => 3
  | .b4 => 4
  | .b5 => 5
  | .b6 => 6
  | .b7 => 7

/-- The code of an RST target in the table of R208. -/
def codeOfRst (v : RstTarget) : BitVec 3 :=
  match v with
  | .t00 => 0
  | .t08 => 1
  | .t10 => 2
  | .t18 => 3
  | .t20 => 4
  | .t28 => 5
  | .t30 => 6
  | .t38 => 7

/-- `LD R8[ddd],R8[sss]`; the slot of `LD (HL),(HL)` is HALT (R212). -/
def ldInstr (d s : R8) : Instr :=
  match d, s with
  | .reg .b, .reg .b => .ldBB
  | .reg .b, .reg .c => .ldBC
  | .reg .b, .reg .d => .ldBD
  | .reg .b, .reg .e => .ldBE
  | .reg .b, .reg .h => .ldBH
  | .reg .b, .reg .l => .ldBL
  | .reg .b, .atHl => .ldBAtHl
  | .reg .b, .reg .a => .ldBA
  | .reg .c, .reg .b => .ldCB
  | .reg .c, .reg .c => .ldCC
  | .reg .c, .reg .d => .ldCD
  | .reg .c, .reg .e => .ldCE
  | .reg .c, .reg .h => .ldCH
  | .reg .c, .reg .l => .ldCL
  | .reg .c, .atHl => .ldCAtHl
  | .reg .c, .reg .a => .ldCA
  | .reg .d, .reg .b => .ldDB
  | .reg .d, .reg .c => .ldDC
  | .reg .d, .reg .d => .ldDD
  | .reg .d, .reg .e => .ldDE
  | .reg .d, .reg .h => .ldDH
  | .reg .d, .reg .l => .ldDL
  | .reg .d, .atHl => .ldDAtHl
  | .reg .d, .reg .a => .ldDA
  | .reg .e, .reg .b => .ldEB
  | .reg .e, .reg .c => .ldEC
  | .reg .e, .reg .d => .ldED
  | .reg .e, .reg .e => .ldEE
  | .reg .e, .reg .h => .ldEH
  | .reg .e, .reg .l => .ldEL
  | .reg .e, .atHl => .ldEAtHl
  | .reg .e, .reg .a => .ldEA
  | .reg .h, .reg .b => .ldHB
  | .reg .h, .reg .c => .ldHC
  | .reg .h, .reg .d => .ldHD
  | .reg .h, .reg .e => .ldHE
  | .reg .h, .reg .h => .ldHH
  | .reg .h, .reg .l => .ldHL
  | .reg .h, .atHl => .ldHAtHl
  | .reg .h, .reg .a => .ldHA
  | .reg .l, .reg .b => .ldLB
  | .reg .l, .reg .c => .ldLC
  | .reg .l, .reg .d => .ldLD
  | .reg .l, .reg .e => .ldLE
  | .reg .l, .reg .h => .ldLH
  | .reg .l, .reg .l => .ldLL
  | .reg .l, .atHl => .ldLAtHl
  | .reg .l, .reg .a => .ldLA
  | .atHl, .reg .b => .ldAtHlB
  | .atHl, .reg .c => .ldAtHlC
  | .atHl, .reg .d => .ldAtHlD
  | .atHl, .reg .e => .ldAtHlE
  | .atHl, .reg .h => .ldAtHlH
  | .atHl, .reg .l => .ldAtHlL
  | .atHl, .atHl => .halt
  | .atHl, .reg .a => .ldAtHlA
  | .reg .a, .reg .b => .ldAB
  | .reg .a, .reg .c => .ldAC
  | .reg .a, .reg .d => .ldAD
  | .reg .a, .reg .e => .ldAE
  | .reg .a, .reg .h => .ldAH
  | .reg .a, .reg .l => .ldAL
  | .reg .a, .atHl => .ldAAtHl
  | .reg .a, .reg .a => .ldAA

/-- `ALU[ooo] A,R8[sss]` (R213). -/
def aluInstr (op : AluOp) (s : R8) : Instr :=
  match op, s with
  | .add, .reg .b => .addAB
  | .add, .reg .c => .addAC
  | .add, .reg .d => .addAD
  | .add, .reg .e => .addAE
  | .add, .reg .h => .addAH
  | .add, .reg .l => .addAL
  | .add, .atHl => .addAAtHl
  | .add, .reg .a => .addAA
  | .adc, .reg .b => .adcAB
  | .adc, .reg .c => .adcAC
  | .adc, .reg .d => .adcAD
  | .adc, .reg .e => .adcAE
  | .adc, .reg .h => .adcAH
  | .adc, .reg .l => .adcAL
  | .adc, .atHl => .adcAAtHl
  | .adc, .reg .a => .adcAA
  | .sub, .reg .b => .subAB
  | .sub, .reg .c => .subAC
  | .sub, .reg .d => .subAD
  | .sub, .reg .e => .subAE
  | .sub, .reg .h => .subAH
  | .sub, .reg .l => .subAL
  | .sub, .atHl => .subAAtHl
  | .sub, .reg .a => .subAA
  | .sbc, .reg .b => .sbcAB
  | .sbc, .reg .c => .sbcAC
  | .sbc, .reg .d => .sbcAD
  | .sbc, .reg .e => .sbcAE
  | .sbc, .reg .h => .sbcAH
  | .sbc, .reg .l => .sbcAL
  | .sbc, .atHl => .sbcAAtHl
  | .sbc, .reg .a => .sbcAA
  | .and, .reg .b => .andAB
  | .and, .reg .c => .andAC
  | .and, .reg .d => .andAD
  | .and, .reg .e => .andAE
  | .and, .reg .h => .andAH
  | .and, .reg .l => .andAL
  | .and, .atHl => .andAAtHl
  | .and, .reg .a => .andAA
  | .xor, .reg .b => .xorAB
  | .xor, .reg .c => .xorAC
  | .xor, .reg .d => .xorAD
  | .xor, .reg .e => .xorAE
  | .xor, .reg .h => .xorAH
  | .xor, .reg .l => .xorAL
  | .xor, .atHl => .xorAAtHl
  | .xor, .reg .a => .xorAA
  | .or, .reg .b => .orAB
  | .or, .reg .c => .orAC
  | .or, .reg .d => .orAD
  | .or, .reg .e => .orAE
  | .or, .reg .h => .orAH
  | .or, .reg .l => .orAL
  | .or, .atHl => .orAAtHl
  | .or, .reg .a => .orAA
  | .cp, .reg .b => .cpAB
  | .cp, .reg .c => .cpAC
  | .cp, .reg .d => .cpAD
  | .cp, .reg .e => .cpAE
  | .cp, .reg .h => .cpAH
  | .cp, .reg .l => .cpAL
  | .cp, .atHl => .cpAAtHl
  | .cp, .reg .a => .cpAA

/-- `ALU[ooo] A,n8` (R214, z = 6). -/
def aluImmInstr (op : AluOp) (n : Byte) : Instr :=
  match op with
  | .add => .addAN8 n
  | .adc => .adcAN8 n
  | .sub => .subAN8 n
  | .sbc => .sbcAN8 n
  | .and => .andAN8 n
  | .xor => .xorAN8 n
  | .or => .orAN8 n
  | .cp => .cpAN8 n

/-- `INC R8[ddd]` (R211, z = 4). -/
def incInstr (d : R8) : Instr :=
  match d with
  | .reg .b => .incB
  | .reg .c => .incC
  | .reg .d => .incD
  | .reg .e => .incE
  | .reg .h => .incH
  | .reg .l => .incL
  | .atHl => .incAtHl
  | .reg .a => .incA

/-- `DEC R8[ddd]` (R211, z = 5). -/
def decInstr (d : R8) : Instr :=
  match d with
  | .reg .b => .decB
  | .reg .c => .decC
  | .reg .d => .decD
  | .reg .e => .decE
  | .reg .h => .decH
  | .reg .l => .decL
  | .atHl => .decAtHl
  | .reg .a => .decA

/-- `LD R8[ddd],n8` (R211, z = 6). -/
def ldImmInstr (d : R8) (n : Byte) : Instr :=
  match d with
  | .reg .b => .ldBN8 n
  | .reg .c => .ldCN8 n
  | .reg .d => .ldDN8 n
  | .reg .e => .ldEN8 n
  | .reg .h => .ldHN8 n
  | .reg .l => .ldLN8 n
  | .atHl => .ldAtHlN8 n
  | .reg .a => .ldAN8 n

/-- The operations on A and F alone (R211, z = 7). -/
def accInstr (op : AccOp) : Instr :=
  match op with
  | .rlca => .rlca
  | .rrca => .rrca
  | .rla => .rla
  | .rra => .rra
  | .daa => .daa
  | .cpl => .cpl
  | .scf => .scf
  | .ccf => .ccf

/-- `LD R16[pp],n16` (R211, z = 1). -/
def ldPairInstr (r : R16) (n : Word) : Instr :=
  match r with
  | .bc => .ldBcN16 n
  | .de => .ldDeN16 n
  | .hl => .ldHlN16 n
  | .sp => .ldSpN16 n

/-- `ADD HL,R16[pp]` (R211, z = 1). -/
def addHlInstr (r : R16) : Instr :=
  match r with
  | .bc => .addHlBc
  | .de => .addHlDe
  | .hl => .addHlHl
  | .sp => .addHlSp

/-- `LD R16MEM[pp],A` (R211, z = 2). -/
def storeAccInstr (r : R16Mem) : Instr :=
  match r with
  | .bc => .ldAtBcA
  | .de => .ldAtDeA
  | .hlInc => .ldAtHlIncA
  | .hlDec => .ldAtHlDecA

/-- `LD A,R16MEM[pp]` (R211, z = 2). -/
def loadAccInstr (r : R16Mem) : Instr :=
  match r with
  | .bc => .ldAAtBc
  | .de => .ldAAtDe
  | .hlInc => .ldAAtHlInc
  | .hlDec => .ldAAtHlDec

/-- `INC R16[pp]` (R211, z = 3). -/
def incPairInstr (r : R16) : Instr :=
  match r with
  | .bc => .incBc
  | .de => .incDe
  | .hl => .incHl
  | .sp => .incSp

/-- `DEC R16[pp]` (R211, z = 3). -/
def decPairInstr (r : R16) : Instr :=
  match r with
  | .bc => .decBc
  | .de => .decDe
  | .hl => .decHl
  | .sp => .decSp

/-- `JR cc,e8` (R211, z = 0). -/
def jrInstr (cc : Cond) (e : Byte) : Instr :=
  match cc with
  | .nz => .jrNzE8 e
  | .z => .jrZE8 e
  | .nc => .jrNcE8 e
  | .c => .jrCE8 e

/-- `RET cc` (R214, z = 0). -/
def retInstr (cc : Cond) : Instr :=
  match cc with
  | .nz => .retNz
  | .z => .retZ
  | .nc => .retNc
  | .c => .retC

/-- `JP cc,n16` (R214, z = 2). -/
def jpInstr (cc : Cond) (n : Word) : Instr :=
  match cc with
  | .nz => .jpNzN16 n
  | .z => .jpZN16 n
  | .nc => .jpNcN16 n
  | .c => .jpCN16 n

/-- `CALL cc,n16` (R214, z = 4). -/
def callInstr (cc : Cond) (n : Word) : Instr :=
  match cc with
  | .nz => .callNzN16 n
  | .z => .callZN16 n
  | .nc => .callNcN16 n
  | .c => .callCN16 n

/-- `POP R16STK[pp]` (R214, z = 1). -/
def popInstr (r : R16Stk) : Instr :=
  match r with
  | .bc => .popBc
  | .de => .popDe
  | .hl => .popHl
  | .af => .popAf

/-- `PUSH R16STK[pp]` (R214, z = 5). -/
def pushInstr (r : R16Stk) : Instr :=
  match r with
  | .bc => .pushBc
  | .de => .pushDe
  | .hl => .pushHl
  | .af => .pushAf

/-- `RST ttt*8` (R214, z = 7). -/
def rstInstr (t : RstTarget) : Instr :=
  match t with
  | .t00 => .rst00
  | .t08 => .rst08
  | .t10 => .rst10
  | .t18 => .rst18
  | .t20 => .rst20
  | .t28 => .rst28
  | .t30 => .rst30
  | .t38 => .rst38

/-- The shifts and rotates of the prefixed table (R215, x = 0). -/
def rotInstr (op : RotOp) (r : R8) : Instr :=
  match op, r with
  | .rlc, .reg .b => .rlcB
  | .rlc, .reg .c => .rlcC
  | .rlc, .reg .d => .rlcD
  | .rlc, .reg .e => .rlcE
  | .rlc, .reg .h => .rlcH
  | .rlc, .reg .l => .rlcL
  | .rlc, .atHl => .rlcAtHl
  | .rlc, .reg .a => .rlcA
  | .rrc, .reg .b => .rrcB
  | .rrc, .reg .c => .rrcC
  | .rrc, .reg .d => .rrcD
  | .rrc, .reg .e => .rrcE
  | .rrc, .reg .h => .rrcH
  | .rrc, .reg .l => .rrcL
  | .rrc, .atHl => .rrcAtHl
  | .rrc, .reg .a => .rrcA
  | .rl, .reg .b => .rlB
  | .rl, .reg .c => .rlC
  | .rl, .reg .d => .rlD
  | .rl, .reg .e => .rlE
  | .rl, .reg .h => .rlH
  | .rl, .reg .l => .rlL
  | .rl, .atHl => .rlAtHl
  | .rl, .reg .a => .rlA
  | .rr, .reg .b => .rrB
  | .rr, .reg .c => .rrC
  | .rr, .reg .d => .rrD
  | .rr, .reg .e => .rrE
  | .rr, .reg .h => .rrH
  | .rr, .reg .l => .rrL
  | .rr, .atHl => .rrAtHl
  | .rr, .reg .a => .rrA
  | .sla, .reg .b => .slaB
  | .sla, .reg .c => .slaC
  | .sla, .reg .d => .slaD
  | .sla, .reg .e => .slaE
  | .sla, .reg .h => .slaH
  | .sla, .reg .l => .slaL
  | .sla, .atHl => .slaAtHl
  | .sla, .reg .a => .slaA
  | .sra, .reg .b => .sraB
  | .sra, .reg .c => .sraC
  | .sra, .reg .d => .sraD
  | .sra, .reg .e => .sraE
  | .sra, .reg .h => .sraH
  | .sra, .reg .l => .sraL
  | .sra, .atHl => .sraAtHl
  | .sra, .reg .a => .sraA
  | .swap, .reg .b => .swapB
  | .swap, .reg .c => .swapC
  | .swap, .reg .d => .swapD
  | .swap, .reg .e => .swapE
  | .swap, .reg .h => .swapH
  | .swap, .reg .l => .swapL
  | .swap, .atHl => .swapAtHl
  | .swap, .reg .a => .swapA
  | .srl, .reg .b => .srlB
  | .srl, .reg .c => .srlC
  | .srl, .reg .d => .srlD
  | .srl, .reg .e => .srlE
  | .srl, .reg .h => .srlH
  | .srl, .reg .l => .srlL
  | .srl, .atHl => .srlAtHl
  | .srl, .reg .a => .srlA

/-- `BIT bbb,R8[rrr]` (R215, x = 1). -/
def bitInstr (b : BitIx) (r : R8) : Instr :=
  match b, r with
  | .b0, .reg .b => .bit0B
  | .b0, .reg .c => .bit0C
  | .b0, .reg .d => .bit0D
  | .b0, .reg .e => .bit0E
  | .b0, .reg .h => .bit0H
  | .b0, .reg .l => .bit0L
  | .b0, .atHl => .bit0AtHl
  | .b0, .reg .a => .bit0A
  | .b1, .reg .b => .bit1B
  | .b1, .reg .c => .bit1C
  | .b1, .reg .d => .bit1D
  | .b1, .reg .e => .bit1E
  | .b1, .reg .h => .bit1H
  | .b1, .reg .l => .bit1L
  | .b1, .atHl => .bit1AtHl
  | .b1, .reg .a => .bit1A
  | .b2, .reg .b => .bit2B
  | .b2, .reg .c => .bit2C
  | .b2, .reg .d => .bit2D
  | .b2, .reg .e => .bit2E
  | .b2, .reg .h => .bit2H
  | .b2, .reg .l => .bit2L
  | .b2, .atHl => .bit2AtHl
  | .b2, .reg .a => .bit2A
  | .b3, .reg .b => .bit3B
  | .b3, .reg .c => .bit3C
  | .b3, .reg .d => .bit3D
  | .b3, .reg .e => .bit3E
  | .b3, .reg .h => .bit3H
  | .b3, .reg .l => .bit3L
  | .b3, .atHl => .bit3AtHl
  | .b3, .reg .a => .bit3A
  | .b4, .reg .b => .bit4B
  | .b4, .reg .c => .bit4C
  | .b4, .reg .d => .bit4D
  | .b4, .reg .e => .bit4E
  | .b4, .reg .h => .bit4H
  | .b4, .reg .l => .bit4L
  | .b4, .atHl => .bit4AtHl
  | .b4, .reg .a => .bit4A
  | .b5, .reg .b => .bit5B
  | .b5, .reg .c => .bit5C
  | .b5, .reg .d => .bit5D
  | .b5, .reg .e => .bit5E
  | .b5, .reg .h => .bit5H
  | .b5, .reg .l => .bit5L
  | .b5, .atHl => .bit5AtHl
  | .b5, .reg .a => .bit5A
  | .b6, .reg .b => .bit6B
  | .b6, .reg .c => .bit6C
  | .b6, .reg .d => .bit6D
  | .b6, .reg .e => .bit6E
  | .b6, .reg .h => .bit6H
  | .b6, .reg .l => .bit6L
  | .b6, .atHl => .bit6AtHl
  | .b6, .reg .a => .bit6A
  | .b7, .reg .b => .bit7B
  | .b7, .reg .c => .bit7C
  | .b7, .reg .d => .bit7D
  | .b7, .reg .e => .bit7E
  | .b7, .reg .h => .bit7H
  | .b7, .reg .l => .bit7L
  | .b7, .atHl => .bit7AtHl
  | .b7, .reg .a => .bit7A

/-- `RES bbb,R8[rrr]` (R215, x = 2). -/
def resInstr (b : BitIx) (r : R8) : Instr :=
  match b, r with
  | .b0, .reg .b => .res0B
  | .b0, .reg .c => .res0C
  | .b0, .reg .d => .res0D
  | .b0, .reg .e => .res0E
  | .b0, .reg .h => .res0H
  | .b0, .reg .l => .res0L
  | .b0, .atHl => .res0AtHl
  | .b0, .reg .a => .res0A
  | .b1, .reg .b => .res1B
  | .b1, .reg .c => .res1C
  | .b1, .reg .d => .res1D
  | .b1, .reg .e => .res1E
  | .b1, .reg .h => .res1H
  | .b1, .reg .l => .res1L
  | .b1, .atHl => .res1AtHl
  | .b1, .reg .a => .res1A
  | .b2, .reg .b => .res2B
  | .b2, .reg .c => .res2C
  | .b2, .reg .d => .res2D
  | .b2, .reg .e => .res2E
  | .b2, .reg .h => .res2H
  | .b2, .reg .l => .res2L
  | .b2, .atHl => .res2AtHl
  | .b2, .reg .a => .res2A
  | .b3, .reg .b => .res3B
  | .b3, .reg .c => .res3C
  | .b3, .reg .d => .res3D
  | .b3, .reg .e => .res3E
  | .b3, .reg .h => .res3H
  | .b3, .reg .l => .res3L
  | .b3, .atHl => .res3AtHl
  | .b3, .reg .a => .res3A
  | .b4, .reg .b => .res4B
  | .b4, .reg .c => .res4C
  | .b4, .reg .d => .res4D
  | .b4, .reg .e => .res4E
  | .b4, .reg .h => .res4H
  | .b4, .reg .l => .res4L
  | .b4, .atHl => .res4AtHl
  | .b4, .reg .a => .res4A
  | .b5, .reg .b => .res5B
  | .b5, .reg .c => .res5C
  | .b5, .reg .d => .res5D
  | .b5, .reg .e => .res5E
  | .b5, .reg .h => .res5H
  | .b5, .reg .l => .res5L
  | .b5, .atHl => .res5AtHl
  | .b5, .reg .a => .res5A
  | .b6, .reg .b => .res6B
  | .b6, .reg .c => .res6C
  | .b6, .reg .d => .res6D
  | .b6, .reg .e => .res6E
  | .b6, .reg .h => .res6H
  | .b6, .reg .l => .res6L
  | .b6, .atHl => .res6AtHl
  | .b6, .reg .a => .res6A
  | .b7, .reg .b => .res7B
  | .b7, .reg .c => .res7C
  | .b7, .reg .d => .res7D
  | .b7, .reg .e => .res7E
  | .b7, .reg .h => .res7H
  | .b7, .reg .l => .res7L
  | .b7, .atHl => .res7AtHl
  | .b7, .reg .a => .res7A

/-- `SET bbb,R8[rrr]` (R215, x = 3). -/
def setInstr (b : BitIx) (r : R8) : Instr :=
  match b, r with
  | .b0, .reg .b => .set0B
  | .b0, .reg .c => .set0C
  | .b0, .reg .d => .set0D
  | .b0, .reg .e => .set0E
  | .b0, .reg .h => .set0H
  | .b0, .reg .l => .set0L
  | .b0, .atHl => .set0AtHl
  | .b0, .reg .a => .set0A
  | .b1, .reg .b => .set1B
  | .b1, .reg .c => .set1C
  | .b1, .reg .d => .set1D
  | .b1, .reg .e => .set1E
  | .b1, .reg .h => .set1H
  | .b1, .reg .l => .set1L
  | .b1, .atHl => .set1AtHl
  | .b1, .reg .a => .set1A
  | .b2, .reg .b => .set2B
  | .b2, .reg .c => .set2C
  | .b2, .reg .d => .set2D
  | .b2, .reg .e => .set2E
  | .b2, .reg .h => .set2H
  | .b2, .reg .l => .set2L
  | .b2, .atHl => .set2AtHl
  | .b2, .reg .a => .set2A
  | .b3, .reg .b => .set3B
  | .b3, .reg .c => .set3C
  | .b3, .reg .d => .set3D
  | .b3, .reg .e => .set3E
  | .b3, .reg .h => .set3H
  | .b3, .reg .l => .set3L
  | .b3, .atHl => .set3AtHl
  | .b3, .reg .a => .set3A
  | .b4, .reg .b => .set4B
  | .b4, .reg .c => .set4C
  | .b4, .reg .d => .set4D
  | .b4, .reg .e => .set4E
  | .b4, .reg .h => .set4H
  | .b4, .reg .l => .set4L
  | .b4, .atHl => .set4AtHl
  | .b4, .reg .a => .set4A
  | .b5, .reg .b => .set5B
  | .b5, .reg .c => .set5C
  | .b5, .reg .d => .set5D
  | .b5, .reg .e => .set5E
  | .b5, .reg .h => .set5H
  | .b5, .reg .l => .set5L
  | .b5, .atHl => .set5AtHl
  | .b5, .reg .a => .set5A
  | .b6, .reg .b => .set6B
  | .b6, .reg .c => .set6C
  | .b6, .reg .d => .set6D
  | .b6, .reg .e => .set6E
  | .b6, .reg .h => .set6H
  | .b6, .reg .l => .set6L
  | .b6, .atHl => .set6AtHl
  | .b6, .reg .a => .set6A
  | .b7, .reg .b => .set7B
  | .b7, .reg .c => .set7C
  | .b7, .reg .d => .set7D
  | .b7, .reg .e => .set7E
  | .b7, .reg .h => .set7H
  | .b7, .reg .l => .set7L
  | .b7, .atHl => .set7AtHl
  | .b7, .reg .a => .set7A

/-- The prefixed table, from the byte after 0xCB (R215). -/
def decodeCb (b : Byte) : Instr :=
  let y := (b.extractLsb' 3 3).toNat
  let r := r8OfCode (b.extractLsb' 0 3).toNat
  match (b.extractLsb' 6 2).toNat with
  | 0 => rotInstr (rotOfCode y) r
  | 1 => bitInstr (bitOfCode y) r
  | 2 => resInstr (bitOfCode y) r
  | _ => setInstr (bitOfCode y) r

/-- Block 0 (R211), from y, z, the operand byte and the operand word. -/
def decodeBlock0 (y z : Nat) (n8 : Byte) (n16 : Word) : Instr :=
  let p := y / 2
  match z with
  | 0 =>
    match y with
    | 0 => .nop
    | 1 => .ldAtN16Sp n16
    | 2 => .stop n8
    | 3 => .jrE8 n8
    | _ => jrInstr (condOfCode (y - 4)) n8
  | 1 => if y % 2 = 0 then ldPairInstr (r16OfCode p) n16 else addHlInstr (r16OfCode p)
  | 2 => if y % 2 = 0 then storeAccInstr (r16MemOfCode p) else loadAccInstr (r16MemOfCode p)
  | 3 => if y % 2 = 0 then incPairInstr (r16OfCode p) else decPairInstr (r16OfCode p)
  | 4 => incInstr (r8OfCode y)
  | 5 => decInstr (r8OfCode y)
  | 6 => ldImmInstr (r8OfCode y) n8
  | _ => accInstr (accOfCode y)

/-- Block 3 (R214), from y, z, the operand byte and the operand word; the illegal opcodes by name (R217). -/
def decodeBlock3 (y z : Nat) (n8 : Byte) (n16 : Word) : Instr :=
  let p := y / 2
  match z with
  | 0 =>
    match y with
    | 4 => .ldhAtN8A n8
    | 5 => .addSpE8 n8
    | 6 => .ldhAAtN8 n8
    | 7 => .ldHlSpE8 n8
    | _ => retInstr (condOfCode y)
  | 1 =>
    match y with
    | 1 => .ret
    | 3 => .reti
    | 5 => .jpHl
    | 7 => .ldSpHl
    | _ => popInstr (r16StkOfCode p)
  | 2 =>
    match y with
    | 4 => .ldhAtCA
    | 5 => .ldAtN16A n16
    | 6 => .ldhAAtC
    | 7 => .ldAAtN16 n16
    | _ => jpInstr (condOfCode y) n16
  | 3 =>
    match y with
    | 0 => .jpN16 n16
    | 1 => decodeCb n8
    | 2 => .illegalD3
    | 3 => .illegalDB
    | 4 => .illegalE3
    | 5 => .illegalEB
    | 6 => .di
    | _ => .ei
  | 4 =>
    match y with
    | 4 => .illegalE4
    | 5 => .illegalEC
    | 6 => .illegalF4
    | 7 => .illegalFC
    | _ => callInstr (condOfCode y) n16
  | 5 =>
    match y with
    | 1 => .callN16 n16
    | 3 => .illegalDD
    | 5 => .illegalED
    | 7 => .illegalFD
    | _ => pushInstr (r16StkOfCode p)
  | 6 => aluImmInstr (aluOfCode y) n8
  | _ => rstInstr (rstOfCode y)

/-- The instruction of three bytes in fetch order, by the fields x, y, z of the first (R201); bytes past the
instruction's length are not read into it. Every opcode decodes (R218). -/
def decodeBytes (b0 b1 b2 : Byte) : Instr :=
  let y := (b0.extractLsb' 3 3).toNat
  let z := (b0.extractLsb' 0 3).toNat
  match (b0.extractLsb' 6 2).toNat with
  | 0 => decodeBlock0 y z b1 (b2 ++ b1)
  | 1 => ldInstr (r8OfCode y) (r8OfCode z)
  | 2 => aluInstr (aluOfCode y) (r8OfCode z)
  | _ => decodeBlock3 y z b1 (b2 ++ b1)

/-- The first bytes of R220's three-byte instructions. -/
def threeByteOpcodes : List Nat :=
  [0x01, 0x08, 0x11, 0x21, 0x31, 0xC2, 0xC3, 0xC4, 0xCA, 0xCC, 0xCD, 0xD2, 0xD4, 0xDA, 0xDC, 0xEA, 0xFA]

/-- The first bytes of R220's two-byte instructions. -/
def twoByteOpcodes : List Nat :=
  [0x06, 0x0E, 0x10, 0x16, 0x18, 0x1E, 0x20, 0x26, 0x28, 0x2E, 0x30, 0x36, 0x38, 0x3E, 0xC6, 0xCB, 0xCE, 0xD6, 0xDE,
   0xE0, 0xE6, 0xE8, 0xEE, 0xF0, 0xF6, 0xF8, 0xFE]

/-- The instruction's length in bytes, a function of its first byte alone (R200, R220). -/
def instrLength (b0 : Byte) : Nat :=
  if b0.toNat ∈ threeByteOpcodes then 3 else if b0.toNat ∈ twoByteOpcodes then 2 else 1

/-- Why a byte list holds no instruction. -/
inductive DecodeError where
  /-- The list is shorter than the instruction its first byte begins. -/
  | truncated (have_ need : Nat)
deriving DecidableEq, Repr

/-- The instruction at the head of a byte list, and the rest of the list. Total on any bytes: the only rejection is a
list that ends inside an instruction. -/
def decode (bytes : List Byte) : Except DecodeError (Instr × List Byte) :=
  match bytes with
  | [] => .error (.truncated 0 1)
  | b0 :: rest =>
    if bytes.length < instrLength b0 then .error (.truncated bytes.length (instrLength b0))
    else .ok (decodeBytes b0 (rest.getD 0 0) (rest.getD 1 0), bytes.drop (instrLength b0))

/-- The bytes of an instruction in fetch order (R202, R209, R216): the opcode, then n8, e8 or n16 low byte first. -/
def encode (i : Instr) : List Byte :=
  match i with
  | .nop => [0x00]
  | .ldBcN16 n => [0x01, n.extractLsb' 0 8, n.extractLsb' 8 8]
  | .ldAtBcA => [0x02]
  | .incBc => [0x03]
  | .incB => [0x04]
  | .decB => [0x05]
  | .ldBN8 n => [0x06, n]
  | .rlca => [0x07]
  | .ldAtN16Sp n => [0x08, n.extractLsb' 0 8, n.extractLsb' 8 8]
  | .addHlBc => [0x09]
  | .ldAAtBc => [0x0A]
  | .decBc => [0x0B]
  | .incC => [0x0C]
  | .decC => [0x0D]
  | .ldCN8 n => [0x0E, n]
  | .rrca => [0x0F]
  | .stop x => [0x10, x]
  | .ldDeN16 n => [0x11, n.extractLsb' 0 8, n.extractLsb' 8 8]
  | .ldAtDeA => [0x12]
  | .incDe => [0x13]
  | .incD => [0x14]
  | .decD => [0x15]
  | .ldDN8 n => [0x16, n]
  | .rla => [0x17]
  | .jrE8 e => [0x18, e]
  | .addHlDe => [0x19]
  | .ldAAtDe => [0x1A]
  | .decDe => [0x1B]
  | .incE => [0x1C]
  | .decE => [0x1D]
  | .ldEN8 n => [0x1E, n]
  | .rra => [0x1F]
  | .jrNzE8 e => [0x20, e]
  | .ldHlN16 n => [0x21, n.extractLsb' 0 8, n.extractLsb' 8 8]
  | .ldAtHlIncA => [0x22]
  | .incHl => [0x23]
  | .incH => [0x24]
  | .decH => [0x25]
  | .ldHN8 n => [0x26, n]
  | .daa => [0x27]
  | .jrZE8 e => [0x28, e]
  | .addHlHl => [0x29]
  | .ldAAtHlInc => [0x2A]
  | .decHl => [0x2B]
  | .incL => [0x2C]
  | .decL => [0x2D]
  | .ldLN8 n => [0x2E, n]
  | .cpl => [0x2F]
  | .jrNcE8 e => [0x30, e]
  | .ldSpN16 n => [0x31, n.extractLsb' 0 8, n.extractLsb' 8 8]
  | .ldAtHlDecA => [0x32]
  | .incSp => [0x33]
  | .incAtHl => [0x34]
  | .decAtHl => [0x35]
  | .ldAtHlN8 n => [0x36, n]
  | .scf => [0x37]
  | .jrCE8 e => [0x38, e]
  | .addHlSp => [0x39]
  | .ldAAtHlDec => [0x3A]
  | .decSp => [0x3B]
  | .incA => [0x3C]
  | .decA => [0x3D]
  | .ldAN8 n => [0x3E, n]
  | .ccf => [0x3F]
  | .ldBB => [0x40]
  | .ldBC => [0x41]
  | .ldBD => [0x42]
  | .ldBE => [0x43]
  | .ldBH => [0x44]
  | .ldBL => [0x45]
  | .ldBAtHl => [0x46]
  | .ldBA => [0x47]
  | .ldCB => [0x48]
  | .ldCC => [0x49]
  | .ldCD => [0x4A]
  | .ldCE => [0x4B]
  | .ldCH => [0x4C]
  | .ldCL => [0x4D]
  | .ldCAtHl => [0x4E]
  | .ldCA => [0x4F]
  | .ldDB => [0x50]
  | .ldDC => [0x51]
  | .ldDD => [0x52]
  | .ldDE => [0x53]
  | .ldDH => [0x54]
  | .ldDL => [0x55]
  | .ldDAtHl => [0x56]
  | .ldDA => [0x57]
  | .ldEB => [0x58]
  | .ldEC => [0x59]
  | .ldED => [0x5A]
  | .ldEE => [0x5B]
  | .ldEH => [0x5C]
  | .ldEL => [0x5D]
  | .ldEAtHl => [0x5E]
  | .ldEA => [0x5F]
  | .ldHB => [0x60]
  | .ldHC => [0x61]
  | .ldHD => [0x62]
  | .ldHE => [0x63]
  | .ldHH => [0x64]
  | .ldHL => [0x65]
  | .ldHAtHl => [0x66]
  | .ldHA => [0x67]
  | .ldLB => [0x68]
  | .ldLC => [0x69]
  | .ldLD => [0x6A]
  | .ldLE => [0x6B]
  | .ldLH => [0x6C]
  | .ldLL => [0x6D]
  | .ldLAtHl => [0x6E]
  | .ldLA => [0x6F]
  | .ldAtHlB => [0x70]
  | .ldAtHlC => [0x71]
  | .ldAtHlD => [0x72]
  | .ldAtHlE => [0x73]
  | .ldAtHlH => [0x74]
  | .ldAtHlL => [0x75]
  | .halt => [0x76]
  | .ldAtHlA => [0x77]
  | .ldAB => [0x78]
  | .ldAC => [0x79]
  | .ldAD => [0x7A]
  | .ldAE => [0x7B]
  | .ldAH => [0x7C]
  | .ldAL => [0x7D]
  | .ldAAtHl => [0x7E]
  | .ldAA => [0x7F]
  | .addAB => [0x80]
  | .addAC => [0x81]
  | .addAD => [0x82]
  | .addAE => [0x83]
  | .addAH => [0x84]
  | .addAL => [0x85]
  | .addAAtHl => [0x86]
  | .addAA => [0x87]
  | .adcAB => [0x88]
  | .adcAC => [0x89]
  | .adcAD => [0x8A]
  | .adcAE => [0x8B]
  | .adcAH => [0x8C]
  | .adcAL => [0x8D]
  | .adcAAtHl => [0x8E]
  | .adcAA => [0x8F]
  | .subAB => [0x90]
  | .subAC => [0x91]
  | .subAD => [0x92]
  | .subAE => [0x93]
  | .subAH => [0x94]
  | .subAL => [0x95]
  | .subAAtHl => [0x96]
  | .subAA => [0x97]
  | .sbcAB => [0x98]
  | .sbcAC => [0x99]
  | .sbcAD => [0x9A]
  | .sbcAE => [0x9B]
  | .sbcAH => [0x9C]
  | .sbcAL => [0x9D]
  | .sbcAAtHl => [0x9E]
  | .sbcAA => [0x9F]
  | .andAB => [0xA0]
  | .andAC => [0xA1]
  | .andAD => [0xA2]
  | .andAE => [0xA3]
  | .andAH => [0xA4]
  | .andAL => [0xA5]
  | .andAAtHl => [0xA6]
  | .andAA => [0xA7]
  | .xorAB => [0xA8]
  | .xorAC => [0xA9]
  | .xorAD => [0xAA]
  | .xorAE => [0xAB]
  | .xorAH => [0xAC]
  | .xorAL => [0xAD]
  | .xorAAtHl => [0xAE]
  | .xorAA => [0xAF]
  | .orAB => [0xB0]
  | .orAC => [0xB1]
  | .orAD => [0xB2]
  | .orAE => [0xB3]
  | .orAH => [0xB4]
  | .orAL => [0xB5]
  | .orAAtHl => [0xB6]
  | .orAA => [0xB7]
  | .cpAB => [0xB8]
  | .cpAC => [0xB9]
  | .cpAD => [0xBA]
  | .cpAE => [0xBB]
  | .cpAH => [0xBC]
  | .cpAL => [0xBD]
  | .cpAAtHl => [0xBE]
  | .cpAA => [0xBF]
  | .retNz => [0xC0]
  | .popBc => [0xC1]
  | .jpNzN16 n => [0xC2, n.extractLsb' 0 8, n.extractLsb' 8 8]
  | .jpN16 n => [0xC3, n.extractLsb' 0 8, n.extractLsb' 8 8]
  | .callNzN16 n => [0xC4, n.extractLsb' 0 8, n.extractLsb' 8 8]
  | .pushBc => [0xC5]
  | .addAN8 n => [0xC6, n]
  | .rst00 => [0xC7]
  | .retZ => [0xC8]
  | .ret => [0xC9]
  | .jpZN16 n => [0xCA, n.extractLsb' 0 8, n.extractLsb' 8 8]
  | .prefixCb op2 => [0xCB, op2]
  | .callZN16 n => [0xCC, n.extractLsb' 0 8, n.extractLsb' 8 8]
  | .callN16 n => [0xCD, n.extractLsb' 0 8, n.extractLsb' 8 8]
  | .adcAN8 n => [0xCE, n]
  | .rst08 => [0xCF]
  | .retNc => [0xD0]
  | .popDe => [0xD1]
  | .jpNcN16 n => [0xD2, n.extractLsb' 0 8, n.extractLsb' 8 8]
  | .illegalD3 => [0xD3]
  | .callNcN16 n => [0xD4, n.extractLsb' 0 8, n.extractLsb' 8 8]
  | .pushDe => [0xD5]
  | .subAN8 n => [0xD6, n]
  | .rst10 => [0xD7]
  | .retC => [0xD8]
  | .reti => [0xD9]
  | .jpCN16 n => [0xDA, n.extractLsb' 0 8, n.extractLsb' 8 8]
  | .illegalDB => [0xDB]
  | .callCN16 n => [0xDC, n.extractLsb' 0 8, n.extractLsb' 8 8]
  | .illegalDD => [0xDD]
  | .sbcAN8 n => [0xDE, n]
  | .rst18 => [0xDF]
  | .ldhAtN8A n => [0xE0, n]
  | .popHl => [0xE1]
  | .ldhAtCA => [0xE2]
  | .illegalE3 => [0xE3]
  | .illegalE4 => [0xE4]
  | .pushHl => [0xE5]
  | .andAN8 n => [0xE6, n]
  | .rst20 => [0xE7]
  | .addSpE8 e => [0xE8, e]
  | .jpHl => [0xE9]
  | .ldAtN16A n => [0xEA, n.extractLsb' 0 8, n.extractLsb' 8 8]
  | .illegalEB => [0xEB]
  | .illegalEC => [0xEC]
  | .illegalED => [0xED]
  | .xorAN8 n => [0xEE, n]
  | .rst28 => [0xEF]
  | .ldhAAtN8 n => [0xF0, n]
  | .popAf => [0xF1]
  | .ldhAAtC => [0xF2]
  | .di => [0xF3]
  | .illegalF4 => [0xF4]
  | .pushAf => [0xF5]
  | .orAN8 n => [0xF6, n]
  | .rst30 => [0xF7]
  | .ldHlSpE8 e => [0xF8, e]
  | .ldSpHl => [0xF9]
  | .ldAAtN16 n => [0xFA, n.extractLsb' 0 8, n.extractLsb' 8 8]
  | .ei => [0xFB]
  | .illegalFC => [0xFC]
  | .illegalFD => [0xFD]
  | .cpAN8 n => [0xFE, n]
  | .rst38 => [0xFF]
  | .rlcB => [0xCB, 0x00]
  | .rlcC => [0xCB, 0x01]
  | .rlcD => [0xCB, 0x02]
  | .rlcE => [0xCB, 0x03]
  | .rlcH => [0xCB, 0x04]
  | .rlcL => [0xCB, 0x05]
  | .rlcAtHl => [0xCB, 0x06]
  | .rlcA => [0xCB, 0x07]
  | .rrcB => [0xCB, 0x08]
  | .rrcC => [0xCB, 0x09]
  | .rrcD => [0xCB, 0x0A]
  | .rrcE => [0xCB, 0x0B]
  | .rrcH => [0xCB, 0x0C]
  | .rrcL => [0xCB, 0x0D]
  | .rrcAtHl => [0xCB, 0x0E]
  | .rrcA => [0xCB, 0x0F]
  | .rlB => [0xCB, 0x10]
  | .rlC => [0xCB, 0x11]
  | .rlD => [0xCB, 0x12]
  | .rlE => [0xCB, 0x13]
  | .rlH => [0xCB, 0x14]
  | .rlL => [0xCB, 0x15]
  | .rlAtHl => [0xCB, 0x16]
  | .rlA => [0xCB, 0x17]
  | .rrB => [0xCB, 0x18]
  | .rrC => [0xCB, 0x19]
  | .rrD => [0xCB, 0x1A]
  | .rrE => [0xCB, 0x1B]
  | .rrH => [0xCB, 0x1C]
  | .rrL => [0xCB, 0x1D]
  | .rrAtHl => [0xCB, 0x1E]
  | .rrA => [0xCB, 0x1F]
  | .slaB => [0xCB, 0x20]
  | .slaC => [0xCB, 0x21]
  | .slaD => [0xCB, 0x22]
  | .slaE => [0xCB, 0x23]
  | .slaH => [0xCB, 0x24]
  | .slaL => [0xCB, 0x25]
  | .slaAtHl => [0xCB, 0x26]
  | .slaA => [0xCB, 0x27]
  | .sraB => [0xCB, 0x28]
  | .sraC => [0xCB, 0x29]
  | .sraD => [0xCB, 0x2A]
  | .sraE => [0xCB, 0x2B]
  | .sraH => [0xCB, 0x2C]
  | .sraL => [0xCB, 0x2D]
  | .sraAtHl => [0xCB, 0x2E]
  | .sraA => [0xCB, 0x2F]
  | .swapB => [0xCB, 0x30]
  | .swapC => [0xCB, 0x31]
  | .swapD => [0xCB, 0x32]
  | .swapE => [0xCB, 0x33]
  | .swapH => [0xCB, 0x34]
  | .swapL => [0xCB, 0x35]
  | .swapAtHl => [0xCB, 0x36]
  | .swapA => [0xCB, 0x37]
  | .srlB => [0xCB, 0x38]
  | .srlC => [0xCB, 0x39]
  | .srlD => [0xCB, 0x3A]
  | .srlE => [0xCB, 0x3B]
  | .srlH => [0xCB, 0x3C]
  | .srlL => [0xCB, 0x3D]
  | .srlAtHl => [0xCB, 0x3E]
  | .srlA => [0xCB, 0x3F]
  | .bit0B => [0xCB, 0x40]
  | .bit0C => [0xCB, 0x41]
  | .bit0D => [0xCB, 0x42]
  | .bit0E => [0xCB, 0x43]
  | .bit0H => [0xCB, 0x44]
  | .bit0L => [0xCB, 0x45]
  | .bit0AtHl => [0xCB, 0x46]
  | .bit0A => [0xCB, 0x47]
  | .bit1B => [0xCB, 0x48]
  | .bit1C => [0xCB, 0x49]
  | .bit1D => [0xCB, 0x4A]
  | .bit1E => [0xCB, 0x4B]
  | .bit1H => [0xCB, 0x4C]
  | .bit1L => [0xCB, 0x4D]
  | .bit1AtHl => [0xCB, 0x4E]
  | .bit1A => [0xCB, 0x4F]
  | .bit2B => [0xCB, 0x50]
  | .bit2C => [0xCB, 0x51]
  | .bit2D => [0xCB, 0x52]
  | .bit2E => [0xCB, 0x53]
  | .bit2H => [0xCB, 0x54]
  | .bit2L => [0xCB, 0x55]
  | .bit2AtHl => [0xCB, 0x56]
  | .bit2A => [0xCB, 0x57]
  | .bit3B => [0xCB, 0x58]
  | .bit3C => [0xCB, 0x59]
  | .bit3D => [0xCB, 0x5A]
  | .bit3E => [0xCB, 0x5B]
  | .bit3H => [0xCB, 0x5C]
  | .bit3L => [0xCB, 0x5D]
  | .bit3AtHl => [0xCB, 0x5E]
  | .bit3A => [0xCB, 0x5F]
  | .bit4B => [0xCB, 0x60]
  | .bit4C => [0xCB, 0x61]
  | .bit4D => [0xCB, 0x62]
  | .bit4E => [0xCB, 0x63]
  | .bit4H => [0xCB, 0x64]
  | .bit4L => [0xCB, 0x65]
  | .bit4AtHl => [0xCB, 0x66]
  | .bit4A => [0xCB, 0x67]
  | .bit5B => [0xCB, 0x68]
  | .bit5C => [0xCB, 0x69]
  | .bit5D => [0xCB, 0x6A]
  | .bit5E => [0xCB, 0x6B]
  | .bit5H => [0xCB, 0x6C]
  | .bit5L => [0xCB, 0x6D]
  | .bit5AtHl => [0xCB, 0x6E]
  | .bit5A => [0xCB, 0x6F]
  | .bit6B => [0xCB, 0x70]
  | .bit6C => [0xCB, 0x71]
  | .bit6D => [0xCB, 0x72]
  | .bit6E => [0xCB, 0x73]
  | .bit6H => [0xCB, 0x74]
  | .bit6L => [0xCB, 0x75]
  | .bit6AtHl => [0xCB, 0x76]
  | .bit6A => [0xCB, 0x77]
  | .bit7B => [0xCB, 0x78]
  | .bit7C => [0xCB, 0x79]
  | .bit7D => [0xCB, 0x7A]
  | .bit7E => [0xCB, 0x7B]
  | .bit7H => [0xCB, 0x7C]
  | .bit7L => [0xCB, 0x7D]
  | .bit7AtHl => [0xCB, 0x7E]
  | .bit7A => [0xCB, 0x7F]
  | .res0B => [0xCB, 0x80]
  | .res0C => [0xCB, 0x81]
  | .res0D => [0xCB, 0x82]
  | .res0E => [0xCB, 0x83]
  | .res0H => [0xCB, 0x84]
  | .res0L => [0xCB, 0x85]
  | .res0AtHl => [0xCB, 0x86]
  | .res0A => [0xCB, 0x87]
  | .res1B => [0xCB, 0x88]
  | .res1C => [0xCB, 0x89]
  | .res1D => [0xCB, 0x8A]
  | .res1E => [0xCB, 0x8B]
  | .res1H => [0xCB, 0x8C]
  | .res1L => [0xCB, 0x8D]
  | .res1AtHl => [0xCB, 0x8E]
  | .res1A => [0xCB, 0x8F]
  | .res2B => [0xCB, 0x90]
  | .res2C => [0xCB, 0x91]
  | .res2D => [0xCB, 0x92]
  | .res2E => [0xCB, 0x93]
  | .res2H => [0xCB, 0x94]
  | .res2L => [0xCB, 0x95]
  | .res2AtHl => [0xCB, 0x96]
  | .res2A => [0xCB, 0x97]
  | .res3B => [0xCB, 0x98]
  | .res3C => [0xCB, 0x99]
  | .res3D => [0xCB, 0x9A]
  | .res3E => [0xCB, 0x9B]
  | .res3H => [0xCB, 0x9C]
  | .res3L => [0xCB, 0x9D]
  | .res3AtHl => [0xCB, 0x9E]
  | .res3A => [0xCB, 0x9F]
  | .res4B => [0xCB, 0xA0]
  | .res4C => [0xCB, 0xA1]
  | .res4D => [0xCB, 0xA2]
  | .res4E => [0xCB, 0xA3]
  | .res4H => [0xCB, 0xA4]
  | .res4L => [0xCB, 0xA5]
  | .res4AtHl => [0xCB, 0xA6]
  | .res4A => [0xCB, 0xA7]
  | .res5B => [0xCB, 0xA8]
  | .res5C => [0xCB, 0xA9]
  | .res5D => [0xCB, 0xAA]
  | .res5E => [0xCB, 0xAB]
  | .res5H => [0xCB, 0xAC]
  | .res5L => [0xCB, 0xAD]
  | .res5AtHl => [0xCB, 0xAE]
  | .res5A => [0xCB, 0xAF]
  | .res6B => [0xCB, 0xB0]
  | .res6C => [0xCB, 0xB1]
  | .res6D => [0xCB, 0xB2]
  | .res6E => [0xCB, 0xB3]
  | .res6H => [0xCB, 0xB4]
  | .res6L => [0xCB, 0xB5]
  | .res6AtHl => [0xCB, 0xB6]
  | .res6A => [0xCB, 0xB7]
  | .res7B => [0xCB, 0xB8]
  | .res7C => [0xCB, 0xB9]
  | .res7D => [0xCB, 0xBA]
  | .res7E => [0xCB, 0xBB]
  | .res7H => [0xCB, 0xBC]
  | .res7L => [0xCB, 0xBD]
  | .res7AtHl => [0xCB, 0xBE]
  | .res7A => [0xCB, 0xBF]
  | .set0B => [0xCB, 0xC0]
  | .set0C => [0xCB, 0xC1]
  | .set0D => [0xCB, 0xC2]
  | .set0E => [0xCB, 0xC3]
  | .set0H => [0xCB, 0xC4]
  | .set0L => [0xCB, 0xC5]
  | .set0AtHl => [0xCB, 0xC6]
  | .set0A => [0xCB, 0xC7]
  | .set1B => [0xCB, 0xC8]
  | .set1C => [0xCB, 0xC9]
  | .set1D => [0xCB, 0xCA]
  | .set1E => [0xCB, 0xCB]
  | .set1H => [0xCB, 0xCC]
  | .set1L => [0xCB, 0xCD]
  | .set1AtHl => [0xCB, 0xCE]
  | .set1A => [0xCB, 0xCF]
  | .set2B => [0xCB, 0xD0]
  | .set2C => [0xCB, 0xD1]
  | .set2D => [0xCB, 0xD2]
  | .set2E => [0xCB, 0xD3]
  | .set2H => [0xCB, 0xD4]
  | .set2L => [0xCB, 0xD5]
  | .set2AtHl => [0xCB, 0xD6]
  | .set2A => [0xCB, 0xD7]
  | .set3B => [0xCB, 0xD8]
  | .set3C => [0xCB, 0xD9]
  | .set3D => [0xCB, 0xDA]
  | .set3E => [0xCB, 0xDB]
  | .set3H => [0xCB, 0xDC]
  | .set3L => [0xCB, 0xDD]
  | .set3AtHl => [0xCB, 0xDE]
  | .set3A => [0xCB, 0xDF]
  | .set4B => [0xCB, 0xE0]
  | .set4C => [0xCB, 0xE1]
  | .set4D => [0xCB, 0xE2]
  | .set4E => [0xCB, 0xE3]
  | .set4H => [0xCB, 0xE4]
  | .set4L => [0xCB, 0xE5]
  | .set4AtHl => [0xCB, 0xE6]
  | .set4A => [0xCB, 0xE7]
  | .set5B => [0xCB, 0xE8]
  | .set5C => [0xCB, 0xE9]
  | .set5D => [0xCB, 0xEA]
  | .set5E => [0xCB, 0xEB]
  | .set5H => [0xCB, 0xEC]
  | .set5L => [0xCB, 0xED]
  | .set5AtHl => [0xCB, 0xEE]
  | .set5A => [0xCB, 0xEF]
  | .set6B => [0xCB, 0xF0]
  | .set6C => [0xCB, 0xF1]
  | .set6D => [0xCB, 0xF2]
  | .set6E => [0xCB, 0xF3]
  | .set6H => [0xCB, 0xF4]
  | .set6L => [0xCB, 0xF5]
  | .set6AtHl => [0xCB, 0xF6]
  | .set6A => [0xCB, 0xF7]
  | .set7B => [0xCB, 0xF8]
  | .set7C => [0xCB, 0xF9]
  | .set7D => [0xCB, 0xFA]
  | .set7E => [0xCB, 0xFB]
  | .set7H => [0xCB, 0xFC]
  | .set7L => [0xCB, 0xFD]
  | .set7AtHl => [0xCB, 0xFE]
  | .set7A => [0xCB, 0xFF]

/-- The bytes, in fetch order, of an instruction whose bits are `w` as spec/opcode_table.json numbers them (log 8): a
prefixed row's 16 bits are 0xCB in bits 15..8 and the second byte in bits 7..0; every other row's first byte is bits 7..0
and each later byte stands above it. Bytes above `nbits` are 0. -/
def tableBytes (nbits w : Nat) : List Byte :=
  let v := w % 2 ^ nbits
  if nbits = 16 ∧ v / 0x100 = 0xCB then [0xCB, BitVec.ofNat 8 v, 0]
  else [BitVec.ofNat 8 v, BitVec.ofNat 8 (v / 0x100), BitVec.ofNat 8 (v / 0x10000)]

/-- What the decoder reads from a row's word. -/
def decodeTableWord (nbits w : Nat) : Option Instr :=
  match decode (tableBytes nbits w) with
  | .ok r => some r.1
  | .error _ => none

end Sys2Proof
end

