-- ==== Sys2Proof/Machine/System.lean ====
section
/-! DEFINITION. Processor control instructions, the illegal opcodes and the prefix (46_system.md R460-R467).
One meaning per instruction, over the shared operations of Machine/Operands.lean. PC is already past the instruction
(40_step.md R255); the number is the cycle count of R258. -/

namespace Sys2Proof.Machine

/-- `NOP` (R460). -/
def execNop (s : State) : Result := finish 1 s

/-- `STOP`: the byte `x` is fetched and ignored (R462, R219). Under `nop2` it consumes its bytes and 1 cycle and changes
nothing else; under `refuse` the step refuses (log 3). -/
def execStop (_x : Byte) (s : State) : Result :=
  match s.stopMode with
  | .nop2 => finish 1 s
  | .refuse => .refused .stopRefused

/-- `HALT` (R461). -/
def execHalt (s : State) : Result := finish 1 (s.setCpu { s.cpu with halted := true })

/-- What the prefixed table does with its byte: the operation of R215 on `R8[rrr]`, and its cycles (R400). -/
def runCb (op2 : Byte) (s : State) : Result :=
  let y := (op2.extractLsb' 3 3).toNat
  let r := r8OfCode (op2.extractLsb' 0 3).toNat
  match (op2.extractLsb' 6 2).toNat with
  | 0 => finish (if r = .atHl then 4 else 2) (rotR8 (rotOfCode y) r s)
  | 1 => finish (if r = .atHl then 3 else 2) (testBitR8 (bitOfCode y) r s)
  | 2 => finish (if r = .atHl then 4 else 2) (resBitR8 (bitOfCode y) r s)
  | _ => finish (if r = .atHl then 4 else 2) (setBitR8 (bitOfCode y) r s)

/-- The prefix row: the byte is dispatched through the prefixed table (R467; log 9). -/
def execPrefixCb (op2 : Byte) (s : State) : Result := runCb op2 s

/-- Illegal opcode 0xD3: the CPU locks (R465, R466). -/
def execIllegalD3 (s : State) : Result := finish 1 (lockCpu s)

/-- Illegal opcode 0xDB: the CPU locks (R465, R466). -/
def execIllegalDB (s : State) : Result := finish 1 (lockCpu s)

/-- Illegal opcode 0xDD: the CPU locks (R465, R466). -/
def execIllegalDD (s : State) : Result := finish 1 (lockCpu s)

/-- Illegal opcode 0xE3: the CPU locks (R465, R466). -/
def execIllegalE3 (s : State) : Result := finish 1 (lockCpu s)

/-- Illegal opcode 0xE4: the CPU locks (R465, R466). -/
def execIllegalE4 (s : State) : Result := finish 1 (lockCpu s)

/-- Illegal opcode 0xEB: the CPU locks (R465, R466). -/
def execIllegalEB (s : State) : Result := finish 1 (lockCpu s)

/-- Illegal opcode 0xEC: the CPU locks (R465, R466). -/
def execIllegalEC (s : State) : Result := finish 1 (lockCpu s)

/-- Illegal opcode 0xED: the CPU locks (R465, R466). -/
def execIllegalED (s : State) : Result := finish 1 (lockCpu s)

/-- `DI` (R464). -/
def execDi (s : State) : Result := finish 1 (s.setCpu { s.cpu with ime := false, eiPending := false })

/-- Illegal opcode 0xF4: the CPU locks (R465, R466). -/
def execIllegalF4 (s : State) : Result := finish 1 (lockCpu s)

/-- `EI` (R463). -/
def execEi (s : State) : Result := finish 1 (s.setCpu { s.cpu with eiPending := true })

/-- Illegal opcode 0xFC: the CPU locks (R465, R466). -/
def execIllegalFC (s : State) : Result := finish 1 (lockCpu s)

/-- Illegal opcode 0xFD: the CPU locks (R465, R466). -/
def execIllegalFD (s : State) : Result := finish 1 (lockCpu s)

end Sys2Proof.Machine
end

