-- ==== Sys2Proof/Machine/Fetch.lean ====
section
/-! DEFINITION. Fetch and decode of one instruction (40_step.md R255), and the placing of an instruction's bytes where the
next fetch reads them. -/

namespace Sys2Proof.Machine

/-- Fetch the opcode byte and the operand bytes its length asks for, in order, each with `fetch8`, and decode (R255, R220).
PC ends past the instruction. -/
def fetchInstr (s : State) : Instr × State :=
  let f0 := fetch8 s
  match instrLength f0.1 with
  | 1 => (decodeBytes f0.1 0 0, f0.2)
  | 2 =>
    let f1 := fetch8 f0.2
    (decodeBytes f0.1 f1.1 0, f1.2)
  | _ =>
    let f1 := fetch8 f0.2
    let f2 := fetch8 f1.2
    (decodeBytes f0.1 f1.1 f2.1, f2.2)

/-- The ROM offset that the cartridge shows at address `n` below 0x8000, if it is a byte of the image (R138-R151). -/
def romOffset (c : Cart) (n : Nat) : Option Nat :=
  let off : Option Nat :=
    match c.mbc with
    | .none => some n
    | .a m => some (mbcARomOffset c m n)
    | .b m => some (bankedRomOffset c m.bank.toNat n)
    | .c m => some (bankedRomOffset c m.bank.toNat n)
    | .unknown => none
  off.filter (fun k => decide (k < c.romLen))

/-- `s` with byte `v` in the store that a read of address `a` reads; none where no plain store serves it (the cartridge
RAM window, the gap, the I/O block, IE, a ROM byte past the image). Not an action of the machine (log 13). -/
def storeCodeByte (s : State) (a : Word) (v : Byte) : Option State :=
  let n := a.toNat
  if n < 0x0100 ∧ s.bootMapped = true then some { s with bootRom := s.bootRom.write n v }
  else if n < 0x8000 then
    (romOffset s.cart n).map (fun off => { s with cart := { s.cart with rom := s.cart.rom.write off v } })
  else if n < 0xA000 then some { s with vram := s.vram.write (n - 0x8000) v }
  else if n < 0xC000 then none
  else if n < 0xE000 then some { s with wram := s.wram.write (n - 0xC000) v }
  else if n < 0xFE00 then some { s with wram := s.wram.write (n - 0xE000) v }
  else if n < 0xFEA0 then some { s with oam := s.oam.write (n - 0xFE00) v }
  else if n < 0xFF80 then none
  else if n < 0xFFFF then some { s with hram := s.hram.write (n - 0xFF80) v }
  else none

/-- The bytes of a list stored at ascending addresses, where all of them can be. -/
def storeCode (s : State) (a : Word) (bytes : List Byte) : Option State :=
  match bytes with
  | [] => some s
  | v :: t =>
    match storeCodeByte s a v with
    | none => none
    | some u => storeCode u (a + 1) t

/-- `s` about to fetch: not locked, not halted, and with IME off where an interrupt would be dispatched first. -/
def readyToFetch (s : State) : State :=
  s.setCpu { s.cpu with locked := false, halted := false, ime := s.cpu.ime && decide (pending s = 0) }

/-- `s` with the bytes where the next step fetches; at 0xC000, with PC there, where PC's bytes cannot be stored (log 13). -/
def placeCode (s : State) (bytes : List Byte) : State :=
  let t := readyToFetch s
  match storeCode t t.cpu.pc bytes with
  | some u => u
  | none => (storeCode (t.setPc 0xC000) 0xC000 bytes).getD t

end Sys2Proof.Machine
end

