-- ==== Sys2Proof/Machine/Ppu.lean ====
section
/-! DEFINITION. The picture processor: the dot tick, sprite selection and line rendering (60_exceptions.md R540-R561,
10_state.md R44-R49, R55). Addresses in VRAM are offsets from 0x8000. -/

namespace Sys2Proof.Machine

/-- LCDC bit 7 (R540). -/
def lcdOn (p : Ppu) : Bool := p.lcdc.getLsbD 7

/-- Sprite height `h` (R548). -/
def spriteHeight (p : Ppu) : Nat := if p.lcdc.getLsbD 2 then 16 else 8

/-- STAT's number of a mode (10_state.md R46). -/
def modeBits : PpuMode → Byte
  | .hblank => 0
  | .vblank => 1
  | .oamScan => 2
  | .pixelDraw => 3

/-- Whether OAM entry i covers line `ly`: `objY <= LY + 16 < objY + h` (R548). -/
def covers (oam : Memory) (ly : Byte) (h i : Nat) : Bool :=
  let objY := (oam.read (4 * i)).toNat
  decide (objY ≤ ly.toNat + 16 ∧ ly.toNat + 16 < objY + h)

/-- `select_sprites()`: the first 10 covering entries, ascending (R548). -/
def selectSprites (p : Ppu) (oam : Memory) : List Nat :=
  ((List.range 40).filter (covers oam p.ly (spriteHeight p))).take 10

/-- `shade(p, i) = (p >> 2i) & 3` (R553). -/
def shade (palette : Byte) (i : Shade) : Shade := (palette >>> (2 * i.toNat)).setWidth 2

/-- Column `c` of the tile row whose two bytes stand at VRAM offset `off` (R551, R552). -/
def pixelIndex (vram : Memory) (off c : Nat) : Shade :=
  BitVec.ofBool ((vram.read (off + 1)).getLsbD (7 - c)) ++ BitVec.ofBool ((vram.read off).getLsbD (7 - c))

/-- `tile_addr(t) - 0x8000` of a background or window tile (R551). -/
def tileOffset (p : Ppu) (t : Byte) : Nat :=
  if p.lcdc.getLsbD 4 then 16 * t.toNat else ((0x1000 : Int) + 16 * t.toInt).toNat

/-- The raw index of the pixel at column `x`, row `y` of the tile map at VRAM offset `map` (R553, R556). -/
def mapPixel (p : Ppu) (vram : Memory) (map x y : Nat) : Shade :=
  let t := vram.read (map + 32 * (y / 8) + x / 8)
  pixelIndex vram (tileOffset p t + 2 * (y % 8)) (x % 8)

/-- The VRAM offset of a tile map by its select bit (10_state.md R45). -/
def mapOffset (select : Bool) : Nat := if select then 0x1C00 else 0x1800

/-- One pixel in the making: the raw background or window index and the shade drawn so far. -/
structure Pixel where
  index : Shade
  shade : Shade
deriving DecidableEq, Repr

/-- The background pass at column x (R553, R554). -/
def backgroundPixel (p : Ppu) (vram : Memory) (ly x : Nat) : Pixel :=
  if p.lcdc.getLsbD 0 then
    let i := mapPixel p vram (mapOffset (p.lcdc.getLsbD 3)) ((x + p.scx.toNat) % 256) ((ly + p.scy.toNat) % 256)
    { index := i, shade := shade p.bgp i }
  else { index := 0, shade := 0 }

/-- Window visibility on line `ly` (R557). -/
def windowVisible (p : Ppu) (ly : Nat) : Bool :=
  p.lcdc.getLsbD 0 && p.lcdc.getLsbD 5 && decide (p.wx.toNat ≤ 166) && decide (p.wy.toNat ≤ ly)

/-- The window pass at column x: it overwrites from `max(0, WX - 7)` on (R556). -/
def windowPixel (p : Ppu) (vram : Memory) (ly x : Nat) (q : Pixel) : Pixel :=
  if windowVisible p ly && decide (p.wx.toNat ≤ x + 7) then
    let i := mapPixel p vram (mapOffset (p.lcdc.getLsbD 6)) (x + 7 - p.wx.toNat) (ly - p.wy.toNat)
    { index := i, shade := shade p.bgp i }
  else q

/-- An OAM entry (R549). -/
structure Sprite where
  index : Nat
  y : Byte
  x : Byte
  tile : Byte
  attr : Byte
deriving DecidableEq, Repr

/-- OAM entry i (R549). -/
def spriteAt (oam : Memory) (i : Nat) : Sprite :=
  { index := i, y := oam.read (4 * i), x := oam.read (4 * i + 1), tile := oam.read (4 * i + 2)
    attr := oam.read (4 * i + 3) }

/-- Whether sprite `o` covers column x: `sx <= x < sx + 8` with `sx = X - 8` (R558). -/
def spriteHits (o : Sprite) (x : Nat) : Bool := decide (o.x.toNat ≤ x + 8 ∧ x < o.x.toNat)

/-- The sprite's row on line `ly`, over the integers (R558; log 10 for rows outside 0..h-1). -/
def spriteRow (o : Sprite) (h ly : Nat) : Int :=
  let row : Int := (ly : Int) - ((o.y.toNat : Int) - 16)
  if o.attr.getLsbD 6 then (h : Int) - 1 - row else row

/-- The sprite's raw index at column x of line `ly`, for an x that it covers (R558; log 10). -/
def spriteIndex (p : Ppu) (vram : Memory) (o : Sprite) (ly x : Nat) : Shade :=
  let h := spriteHeight p
  let row := spriteRow o h ly
  let col := x + 8 - o.x.toNat
  let t : Byte := if h = 16 then (o.tile &&& 0xFE) + BitVec.ofInt 8 (row / 8) else o.tile
  pixelIndex vram (16 * t.toNat + 2 * (row % 8).toNat) (if o.attr.getLsbD 5 then 7 - col else col)

/-- Sprite `o` has priority over `q` (R559). -/
def hasPriority (o q : Sprite) : Bool :=
  decide (o.x.toNat < q.x.toNat ∨ (o.x = q.x ∧ o.index < q.index))

/-- One entry of the list taken into account: the best opaque sprite so far at column x (R558). -/
def bestSprite (p : Ppu) (vram oam : Memory) (ly x : Nat) (best : Option (Sprite × Shade)) (i : Nat) :
    Option (Sprite × Shade) :=
  let o := spriteAt oam i
  let c := spriteIndex p vram o ly x
  if spriteHits o x && decide (c ≠ 0) then
    match best with
    | none => some (o, c)
    | some (q, d) => if hasPriority o q then some (o, c) else some (q, d)
  else best

/-- The sprite pass at column x (R558, R559, R560). -/
def spritePixel (p : Ppu) (vram oam : Memory) (ly x : Nat) (q : Pixel) : Pixel :=
  if p.lcdc.getLsbD 1 then
    match p.spriteList.foldl (bestSprite p vram oam ly x) none with
    | none => q
    | some (o, c) =>
      if o.attr.getLsbD 7 && decide (q.index ≠ 0) then q
      else { q with shade := shade (if o.attr.getLsbD 4 then p.obp1 else p.obp0) c }
  else q

/-- The three passes at column x (R550). -/
def renderPixel (p : Ppu) (vram oam : Memory) (ly x : Nat) : Pixel :=
  spritePixel p vram oam ly x (windowPixel p vram ly x (backgroundPixel p vram ly x))

/-- `render_line(LY)`: row LY of the framebuffer and the line's raw indexes (R550, R553). -/
def renderLine (p : Ppu) (vram oam : Memory) : Ppu :=
  let line := (List.range 160).map (renderPixel p vram oam p.ly.toNat)
  { p with framebuffer := p.framebuffer.set p.ly.toNat (line.map (·.shade))
           bgIndexLine := line.map (·.index) }

/-- What the mode part of a dot leaves: the PPU, the mode entered in this tick if any, and whether it is vblank entry. -/
structure PpuTick where
  ppu : Ppu
  entered : Option PpuMode
  vblank : Bool

/-- The mode part of `ppu_dot()` with the LCD on (R541, R543, R547). -/
def ppuAdvance (p : Ppu) (vram oam : Memory) : PpuTick :=
  let q := { p with dot := p.dot + 1 }
  match p.mode with
  | .oamScan =>
    if q.dot = 80 then
      { ppu := { q with spriteList := selectSprites q oam, mode := .pixelDraw }
        entered := some .pixelDraw, vblank := false }
    else { ppu := q, entered := none, vblank := false }
  | .pixelDraw =>
    if q.dot = 252 then
      { ppu := { renderLine q vram oam with mode := .hblank }, entered := some .hblank, vblank := false }
    else { ppu := q, entered := none, vblank := false }
  | .hblank =>
    if q.dot = 456 then
      if q.ly + 1 = 144 then
        { ppu := { q with dot := 0, ly := q.ly + 1, mode := .vblank, frameReady := true }
          entered := some .vblank, vblank := true }
      else
        { ppu := { q with dot := 0, ly := q.ly + 1, mode := .oamScan }
          entered := some .oamScan, vblank := false }
    else { ppu := q, entered := none, vblank := false }
  | .vblank =>
    if q.dot = 456 then
      if q.ly + 1 = 154 then
        { ppu := { q with dot := 0, ly := 0, mode := .oamScan }
          entered := some .oamScan, vblank := false }
      else { ppu := { q with dot := 0, ly := q.ly + 1 }, entered := none, vblank := false }
    else { ppu := q, entered := none, vblank := false }

/-- `coinc = (LY = LYC)` (R544). -/
def coincidence (p : Ppu) : Bool := decide (p.ly = p.lyc)

/-- The STAT update (R545). -/
def updateStat (p : Ppu) : Ppu :=
  { p with stat := (p.stat &&& 0x78) ||| (if coincidence p then 0x04 else 0x00) ||| modeBits p.mode }

/-- Whether the status interrupt is requested in this tick (R546): `p` is the PPU before the STAT update, so its stored
bit 2 is the coincidence of the last tick. -/
def statRequest (p : Ppu) (entered : Option PpuMode) : Bool :=
  (p.stat.getLsbD 6 && coincidence p && !p.stat.getLsbD 2)
    || (p.stat.getLsbD 3 && decide (entered = some .hblank))
    || (p.stat.getLsbD 4 && decide (entered = some .vblank))
    || (p.stat.getLsbD 5 && decide (entered = some .oamScan))

/-- The IF bits a tick requests: bit 0 for vblank (R547), bit 1 for the status interrupt (R546). -/
def ppuRequests (t : PpuTick) : Byte :=
  (if t.vblank then 0x01 else 0x00) ||| (if statRequest t.ppu t.entered then 0x02 else 0x00)

/-- `ppu_dot()` (R540, R541). -/
def ppuDot (s : State) : State :=
  if lcdOn s.ppu then
    let t := ppuAdvance s.ppu s.vram s.oam
    { s with ppu := updateStat t.ppu, ifReg := s.ifReg ||| ppuRequests t }
  else s

end Sys2Proof.Machine
end

