-- ==== Sys2Proof/Machine/Timer.lean ====
section
/-! DEFINITION. The timer (60_exceptions.md R580-R584, 10_state.md R51). -/

namespace Sys2Proof.Machine

/-- `period(TAC[1:0])` in cycles (10_state.md R51). -/
def timerPeriod (tac : Byte) : Nat :=
  match (tac.extractLsb' 0 2).toNat with
  | 0 => 256
  | 1 => 4
  | 2 => 16
  | _ => 64

/-- The divider's part of a timer cycle (R581). -/
def tickDivider (t : Timer) : Timer :=
  if t.divCounter + 1 = 64 then { t with divCounter := 0, div := t.div + 1 }
  else { t with divCounter := t.divCounter + 1 }

/-- Whether this cycle increments TIMA (R582). -/
def timaDue (t : Timer) : Bool :=
  t.tac.getLsbD 2 && decide (t.timaCounter + 1 ≥ timerPeriod t.tac)

/-- Whether this cycle overflows TIMA (R583). -/
def timaOverflows (t : Timer) : Bool := timaDue t && decide (t.tima = 0xFF)

/-- The programmable counter's part of a timer cycle (R582, R583). -/
def tickTima (t : Timer) : Timer :=
  if timaDue t then
    { t with timaCounter := 0, tima := if t.tima = 0xFF then t.tma else t.tima + 1 }
  else if t.tac.getLsbD 2 then { t with timaCounter := t.timaCounter + 1 }
  else t

/-- `timer_cycle()` (R580). -/
def timerCycle (s : State) : State :=
  let t := { s with timer := tickTima (tickDivider s.timer) }
  if timaOverflows s.timer then request t 2 else t

end Sys2Proof.Machine
end

