-- ==== Sys2Proof/Machine/HostApi.lean ====
section
/-! DEFINITION. The host's actions, taken only between system steps (40_step.md R262; log 6). -/

namespace Sys2Proof.Machine

/-- The actions of R262: the joypad (60_exceptions.md R600), the clear of `frame_ready` (R561) and RTC_ADVANCE
(20_memory.md R154). Reading the framebuffer or the cartridge RAM changes nothing. -/
inductive HostAction where
  | press (btn : Button)
  | release (btn : Button)
  | releaseAll
  | clearFrameReady
  | setRtc (r : Rtc)
deriving DecidableEq, Repr

/-- `press(b)`: the latch, and the joypad interrupt regardless of the previous state (R603). -/
def press (btn : Button) (s : State) : State := request { s with joypad := latchPress s.joypad btn } 4

/-- `release(b)`: no interrupt (R604). -/
def release (btn : Button) (s : State) : State := { s with joypad := latchRelease s.joypad btn }

/-- `release_all()`: no interrupt (R604). -/
def releaseAll (s : State) : State := { s with joypad := { s.joypad with action := 0xF, direction := 0xF } }

/-- The host clears `frame_ready` after consuming a frame (R561). -/
def clearFrameReady (s : State) : State := { s with ppu := { s.ppu with frameReady := false } }

/-- RTC_ADVANCE: the host changes `rtc_live` of Controller C (20_memory.md R154); other variants have no clock. -/
def setRtc (r : Rtc) (s : State) : State :=
  match s.cart.mbc with
  | .c m => { s with cart := { s.cart with mbc := .c { m with rtcLive := r } } }
  | _ => s

/-- The effect of a host action. -/
def hostAct (x : HostAction) (s : State) : State :=
  match x with
  | .press btn => press btn s
  | .release btn => release btn s
  | .releaseAll => releaseAll s
  | .clearFrameReady => clearFrameReady s
  | .setRtc r => setRtc r s

end Sys2Proof.Machine
end

