-- ==== Sys2Proof/Machine/Sequencer.lean ====
section
/-! DEFINITION. The CPU step and the system step (40_step.md R250-R262). -/

namespace Sys2Proof.Machine

/-- The wake of R251: a pending request clears `halted`, whatever IME. -/
def wake (s : State) : State :=
  if pending s ≠ 0 then s.setCpu { s.cpu with halted := false } else s

/-- The delayed EI of R256, after the execute phase of an instruction step that began with `enableAfter`. -/
def applyEi (enableAfter : Bool) (s : State) : State :=
  if enableAfter && s.cpu.eiPending then s.setCpu { s.cpu with ime := true, eiPending := false } else s

/-- Fetch, decode, execute, then the delayed EI (R255-R257). -/
def runInstr (s : State) : Result :=
  match exec (fetchInstr s).1 (fetchInstr s).2 with
  | .next t => .next (applyEi s.cpu.eiPending t)
  | .fault r => .fault r
  | .refused r => .refused r

/-- `cpu_step()` (R259): the count it returns is `cycles` of the next state. -/
def cpuStep (s : State) : Result :=
  if s.cpu.locked then finish 1 s
  else if s.cpu.ime && decide (pending s ≠ 0) then .next (dispatch (wake s) (lowestPending (pending s)))
  else if (wake s).cpu.halted then finish 1 (wake s)
  else runInstr (wake s)

/-- `f` done n times. -/
def repeatN (n : Nat) (f : State → State) (s : State) : State :=
  match n with
  | 0 => s
  | k + 1 => repeatN k f (f s)

/-- The device phase of a system step of n cycles: 4n dots, then n timer cycles (R260). -/
def advanceDevices (n : Nat) (s : State) : State := repeatN n timerCycle (repeatN (4 * n) ppuDot s)

/-- `system_step()` (R260). -/
def systemStep (s : State) : Result :=
  match cpuStep s with
  | .next t => .next (advanceDevices t.cycles t)
  | .fault r => .fault r
  | .refused r => .refused r

end Sys2Proof.Machine
end

