-- ==== Sys2Proof/Machine/Step.lean ====
section
/-! DEFINITION. The step of the model: one system step (40_step.md R260). -/

namespace Sys2Proof.Machine

/-- One system step: a CPU step, then the PPU and the timer by the cycles it reported (R260). -/
def step (s : State) : Host.Outcome State Fault Refusal := systemStep s

/-- `s` with the instruction of a table word where the next step fetches it (logs 2, 8 and 13). -/
def State.withFetchWord (s : State) (nbits w : Nat) : State := placeCode s (tableBytes nbits w)

end Sys2Proof.Machine
end

