-- ==== Sys2Proof/Machine/Creation.lean ====
section
/-! DEFINITION. Creation with every open parameter as an argument (20_memory.md R130, 70_reset_and_hazards.md R700-R702,
10_state.md R59-R62). -/

namespace Sys2Proof.Machine

/-- Why no system is created (R130). -/
inductive LoadError where
  /-- `len(rom_bytes) < 0x150`. -/
  | truncatedHeader
  /-- The ROM-size code is not in the table of R132. -/
  | romSizeCode (code : Byte)
deriving DecidableEq, Repr

/-- Byte i of a list, 0x00 where the list does not reach (log 4). -/
def byteAt (l : List Byte) (i : Nat) : Byte := l.getD i blank

/-- The memory holding the first `n` bytes of a list (R136, R702; log 20). -/
def loadBytes (n : Nat) (l : List Byte) : Memory := Memory.ofBytes 0 (l.take n)

/-- The I/O offsets that have a field of State of their own. -/
def namedIo : List Nat :=
  [0x00, 0x01, 0x02, 0x04, 0x05, 0x06, 0x07, 0x0F, 0x40, 0x41, 0x42, 0x43, 0x44, 0x45, 0x46, 0x47, 0x48, 0x49, 0x4A,
   0x4B, 0x50]

/-- `create(rom_bytes)` with CART_RAM_INIT (R130-R133, R136, R160). -/
def createCart (p : Params) : Except LoadError Cart :=
  if p.cartRom.length < 0x150 then .error .truncatedHeader
  else
    match romSizeOfCode (byteAt p.cartRom 0x148).toNat with
    | none => .error (.romSizeCode (byteAt p.cartRom 0x148))
    | some size =>
      let mbc := mbcOfType (byteAt p.cartRom 0x147).toNat
      let ramLen := ramSizeOf mbc (byteAt p.cartRom 0x149).toNat
      .ok { rom := loadBytes p.cartRom.length p.cartRom, romLen := p.cartRom.length, romSize := size
            ram := loadBytes ramLen p.cartRamInit, ramLen := ramLen, mbc := mbc }

/-- The CPU at creation in `boot_rom` mode (10_state.md R59): F is masked (R33). -/
def cpuBoot (r : PowerOnRegs) : Cpu :=
  { a := r.a, f := r.f &&& 0xF0, b := r.b, c := r.c, d := r.d, e := r.e, h := r.h, l := r.l, sp := r.sp, pc := 0x0000
    ime := false, eiPending := false, halted := false, locked := false }

/-- The PPU at creation in `boot_rom` mode: registers from POWER_ON_MEM, but STAT and LY (R55, R60, R61). -/
def ppuBoot (io : List Byte) : Ppu :=
  { Ppu.reset with
    lcdc := byteAt io 0x40, scy := byteAt io 0x42, scx := byteAt io 0x43, lyc := byteAt io 0x45
    bgp := byteAt io 0x47, obp0 := byteAt io 0x48, obp1 := byteAt io 0x49, wy := byteAt io 0x4A, wx := byteAt io 0x4B }

/-- The timer at creation in `boot_rom` mode: registers from POWER_ON_MEM, but DIV (R60, R61). -/
def timerBoot (io : List Byte) : Timer :=
  { div := 0, tima := byteAt io 0x05, tma := byteAt io 0x06, tac := byteAt io 0x07, divCounter := 0, timaCounter := 0 }

/-- A machine created in `boot_rom` mode (R701): the I/O block and IE come from POWER_ON_MEM, but the bytes of R60. -/
def createBootRom (p : Params) (c : Cart) : State :=
  let io := p.powerOnMem.io
  { State.reset with
    cpu := cpuBoot p.powerOnRegs, ieReg := p.powerOnMem.ie, ifReg := byteAt io 0x0F
    bootMapped := true, bootRom := loadBytes 256 p.bootRom
    vram := loadBytes 8192 p.powerOnMem.vram, wram := loadBytes 8192 p.powerOnMem.wram
    oam := loadBytes 160 p.powerOnMem.oam, hram := loadBytes 127 p.powerOnMem.hram
    io := (loadBytes 128 io).filter (fun x => decide (x.1 ∉ namedIo))
    sb := byteAt io 0x01, sc := byteAt io 0x02, dma := byteAt io 0x46, bootOff := byteAt io 0x50
    cart := c, ppu := ppuBoot io, timer := timerBoot io
    joypad := { Joypad.reset with p1 := byteAt io 0x00 &&& 0x30 }
    stopMode := p.stopMode }

/-- A machine created in `skip_boot` mode (R701): the registers and the I/O block of R59-R61, memory of POWER_ON_MEM. -/
def createSkipBoot (p : Params) (c : Cart) : State :=
  { State.reset with
    bootRom := loadBytes 256 p.bootRom
    vram := loadBytes 8192 p.powerOnMem.vram, wram := loadBytes 8192 p.powerOnMem.wram
    oam := loadBytes 160 p.powerOnMem.oam, hram := loadBytes 127 p.powerOnMem.hram
    cart := c, stopMode := p.stopMode }

/-- The initial state (R700): on a load error no system exists. -/
def create (p : Params) : Except LoadError State :=
  match createCart p with
  | .error e => .error e
  | .ok c =>
    match p.bootMode with
    | .bootRom => .ok (createBootRom p c)
    | .skipBoot => .ok (createSkipBoot p c)

end Sys2Proof.Machine
end

