-- ==== Sys2Proof/Safety.lean ====
section
/-! DEFINITION. What every state of a run is: the invariant of the machine, which bytes a store reaches, and the states a run
reaches. -/

namespace Sys2Proof.Safety

open Sys2Proof.Machine

/-- The PPU's mode, dot and line agree with the frame timing of 60_exceptions.md R542. -/
def InPosition (p : Ppu) : Prop :=
  match p.mode with
  | .oamScan => p.dot < 80 ∧ p.ly.toNat < 144
  | .pixelDraw => 80 ≤ p.dot ∧ p.dot < 252 ∧ p.ly.toNat < 144
  | .hblank => 252 ≤ p.dot ∧ p.dot < 456 ∧ p.ly.toNat < 144
  | .vblank => p.dot < 456 ∧ 144 ≤ p.ly.toNat ∧ p.ly.toNat < 154

/-- The PPU's invariant: its position, STAT's stored bits (10_state.md R46), the sprite list (R55, R548) and the shapes of
the framebuffer and the index line (R55). -/
structure PpuInv (p : Ppu) : Prop where
  position : InPosition p
  statMode : p.stat &&& 0x83 = modeBits p.mode
  spriteCount : p.spriteList.length ≤ 10
  spriteRange : ∀ i ∈ p.spriteList, i < 40
  spriteOrder : p.spriteList.Pairwise (· < ·)
  rows : p.framebuffer.length = 144
  rowLength : ∀ r ∈ p.framebuffer, r.length = 160
  indexLength : p.bgIndexLine.length = 160

/-- The timer's hidden counters keep their ranges (10_state.md R52). -/
structure TimerInv (t : Timer) : Prop where
  divCounter : t.divCounter < 64
  timaCounter : t.timaCounter < 256

/-- The controller's registers: a primary bank is never 0 (20_memory.md R140, R145, R149), and Controller B's RAM has 512
bytes (R144). -/
def MbcInv (c : Cart) : Prop :=
  match c.mbc with
  | .a m => m.bank1 ≠ 0
  | .b m => m.bank ≠ 0 ∧ c.ramLen = 512
  | .c m => m.bank ≠ 0
  | .none => True
  | .unknown => True

/-- The cartridge's invariant. -/
structure CartInv (c : Cart) : Prop where
  rom : c.rom.wf
  romRange : c.rom.within c.romLen
  ram : c.ram.wf
  ramRange : c.ram.within c.ramLen
  mbc : MbcInv c

/-- Every internal memory is canonical and lists only bytes its array has (10_state.md R42). -/
structure MemInv (s : State) : Prop where
  bootRom : s.bootRom.wf ∧ s.bootRom.within 256
  vram : s.vram.wf ∧ s.vram.within 8192
  wram : s.wram.wf ∧ s.wram.within 8192
  oam : s.oam.wf ∧ s.oam.within 160
  io : s.io.wf ∧ s.io.within 128
  hram : s.hram.wf ∧ s.hram.within 127

/-- The invariant of the whole machine; the flag byte's low nibble is 0 "at all times" (10_state.md R33), and P1 stores
only its select bits (R53). -/
structure MachineInv (s : State) : Prop where
  flags : s.cpu.f &&& 0x0F = 0
  p1 : s.joypad.p1 &&& 0xCF = 0
  mem : MemInv s
  cart : CartInv s.cart
  ppu : PpuInv s.ppu
  timer : TimerInv s.timer

/-- Whether the cartridge RAM window repeats every 512 bytes: Controller B alone (20_memory.md R147). -/
def mirrorsRam (m : Mbc) : Bool :=
  match m with
  | .b _ => true
  | .none => false
  | .a _ => false
  | .c _ => false
  | .unknown => false

/-- The cartridge RAM window (20_memory.md R100). -/
def InCartRam (a : Word) : Prop := 0xA000 ≤ a.toNat ∧ a.toNat < 0xC000

/-- The work RAM address of an echo address (20_memory.md R105), any other address itself. -/
def unecho (a : Word) : Word := if 0xE000 ≤ a.toNat ∧ a.toNat < 0xFE00 then a - 0x2000 else a

/-- The addresses `b` whose bytes a store to `a` can change, from 20_memory.md R123: a controller register changes the two
cartridge windows, a cartridge RAM byte its own address (or its mirrors on Controller B), the DMA register itself and OAM
(R117), the boot-ROM-disable register itself and the boot window (R118), and any other store the one byte (with its echo). -/
def StoreReaches (mirrored : Bool) (a b : Word) : Prop :=
  if a.toNat < 0x8000 then b.toNat < 0x8000 ∨ InCartRam b
  else if 0xA000 ≤ a.toNat ∧ a.toNat < 0xC000 then
    InCartRam b ∧ (b = a ∨ (mirrored = true ∧ b.toNat % 512 = a.toNat % 512))
  else if a = 0xFF46 then b = a ∨ (0xFE00 ≤ b.toNat ∧ b.toNat < 0xFEA0)
  else if a = 0xFF50 then b = a ∨ b.toNat < 0x0100
  else unecho b = unecho a

/-- The three operand forms of an ALU operation (42_alu8.md R330), in the order of its table: in state `s`, instruction
`i` has the bytes `bytes`, the operand `v` and costs `n` cycles. -/
inductive AluForm (op : AluOp) (s : State) : Instr → List Byte → Byte → Nat → Prop where
  | register (r : Reg8) :
    AluForm op s (aluInstr op (.reg r)) [2#2 ++ codeOfAlu op ++ codeOfR8 (.reg r)] (s.cpu.get r) 1
  | memory : AluForm op s (aluInstr op .atHl) [2#2 ++ codeOfAlu op ++ 6#3] (memRead s s.cpu.hl) 2
  | immediate (n : Byte) : AluForm op s (aluImmInstr op n) [3#2 ++ codeOfAlu op ++ 6#3, n] n 2

/-- The two stack bytes a push writes (00_scope.md R13). -/
inductive PushAddress (s : State) : Word → Prop where
  | high : PushAddress s (s.cpu.sp - 1)
  | low : PushAddress s (s.cpu.sp - 2)

/-- In state `s`, instruction `i` stores to address `a`: one line for every form that stores, with the address its rule
names; an instruction of no line stores nothing. -/
inductive StoresTo (s : State) : Instr → Word → Prop where
  | ldRegister (r : Reg8) : StoresTo s (ldInstr .atHl (.reg r)) s.cpu.hl
  | ldImmediate (n : Byte) : StoresTo s (.ldAtHlN8 n) s.cpu.hl
  | ldPair (m : R16Mem) : StoresTo s (storeAccInstr m) (r16MemAddress s.cpu m)
  | ldAbsolute (n : Word) : StoresTo s (.ldAtN16A n) n
  | ldHighPage (n : Byte) : StoresTo s (.ldhAtN8A n) (highPage n)
  | ldHighC : StoresTo s .ldhAtCA (highPage s.cpu.c)
  | ldSpLow (n : Word) : StoresTo s (.ldAtN16Sp n) n
  | ldSpHigh (n : Word) : StoresTo s (.ldAtN16Sp n) (n + 1)
  | push (r : R16Stk) (a : Word) (h : PushAddress s a) : StoresTo s (pushInstr r) a
  | call (n a : Word) (h : PushAddress s a) : StoresTo s (.callN16 n) a
  | callTaken (cc : Cond) (n a : Word) (ht : holds s.cpu cc = true) (h : PushAddress s a) :
    StoresTo s (callInstr cc n) a
  | rst (t : RstTarget) (a : Word) (h : PushAddress s a) : StoresTo s (rstInstr t) a
  | inc : StoresTo s (incInstr .atHl) s.cpu.hl
  | dec : StoresTo s (decInstr .atHl) s.cpu.hl
  | rotate (op : RotOp) : StoresTo s (rotInstr op .atHl) s.cpu.hl
  | res (b : BitIx) : StoresTo s (resInstr b .atHl) s.cpu.hl
  | set (b : BitIx) : StoresTo s (setInstr b .atHl) s.cpu.hl
  | viaPrefix (x : Byte) (a : Word) (h : StoresTo s (decodeCb x) a) : StoresTo s (.prefixCb x) a

/-- The states that runs reach: from any creation, by system steps and host actions between them (40_step.md R262). -/
inductive Reachable : State → Prop where
  | created (p : Params) (s : State) (h : create p = .ok s) : Reachable s
  | stepped (s t : State) (hs : Reachable s) (h : step s = .next t) : Reachable t
  | acted (s : State) (x : HostAction) (hs : Reachable s) : Reachable (hostAct x s)

end Sys2Proof.Safety
end

