-- ==== Sys2Proof/Certificates/Slice0/Obligations.lean ====
section
/-! DEFINITION. The statements for the provers, each from numbered rules of spec/. A result statement is an equation for
the whole next state: what it does not name is unchanged, so it is its own frame and its own completion statement. In the
state that `exec` gets, PC is already past the instruction (40_step.md R255). -/

open Sys2Proof Sys2Proof.Machine Sys2Proof.Safety

/-! ### Encodings (30_encoding.md) -/

/-- Every well-formed instruction, with every operand value, survives encoding and decoding (R200, R202, R216, R218). -/
def Obligations.DecodeEncode : Prop :=
  ∀ (i : Instr) (rest : List Byte), WellFormed i = true → decode (encode i ++ rest) = .ok (i, rest)

/-- Decoding is total and loses no bit: any three bytes decode to a well-formed instruction whose encoding is their
first `instrLength` bytes (R200, R218, R220). -/
def Obligations.EncodeDecode : Prop :=
  ∀ b0 b1 b2 : Byte, WellFormed (decodeBytes b0 b1 b2) = true ∧
    encode (decodeBytes b0 b1 b2) = [b0, b1, b2].take (instrLength b0)

/-- The field decode of blocks 1 and 2 and of the prefixed table (R212, R213, R215), and the slot of HALT. -/
def Obligations.DecodeFields : Prop :=
  ∀ (dst r : R8) (op : AluOp) (ro : RotOp) (b : BitIx) (b1 b2 : Byte),
    (¬ (dst = .atHl ∧ r = .atHl) → decodeBytes (1#2 ++ codeOfR8 dst ++ codeOfR8 r) b1 b2 = ldInstr dst r) ∧
    decodeBytes 0x76 b1 b2 = .halt ∧
    decodeBytes (2#2 ++ codeOfAlu op ++ codeOfR8 r) b1 b2 = aluInstr op r ∧
    decodeBytes 0xCB (0#2 ++ codeOfRot ro ++ codeOfR8 r) b2 = rotInstr ro r ∧
    decodeBytes 0xCB (1#2 ++ codeOfBit b ++ codeOfR8 r) b2 = bitInstr b r ∧
    decodeBytes 0xCB (2#2 ++ codeOfBit b ++ codeOfR8 r) b2 = resInstr b r ∧
    decodeBytes 0xCB (3#2 ++ codeOfBit b ++ codeOfR8 r) b2 = setInstr b r

/-- Words written out from the encodings of the rules named decode to the instruction they stand for. -/
def Obligations.DecodeWords : Prop :=
  decode [0b01111000] = .ok (.ldAB, []) ∧                                      -- R281, LD A,B
  decode [0b00110001, 0xFE, 0xFF] = .ok (.ldSpN16 0xFFFE, []) ∧                -- R300, LD SP,0xFFFE
  decode [0b10000110] = .ok (.addAAtHl, []) ∧                                  -- R331, ADD A,(HL)
  decode [0b00101001] = .ok (.addHlHl, []) ∧                                   -- R383, ADD HL,HL
  decode [0xCB, 0b11001011] = .ok (.set1E, []) ∧                               -- R411, SET 1,E
  decode [0b11001010, 0x00, 0x40] = .ok (.jpZN16 0x4000, []) ∧                 -- R432, JP Z,0x4000
  decode [0b01110110] = .ok (.halt, []) ∧                                      -- R461, HALT
  decode [0xDD] = .ok (.illegalDD, [])                                         -- R217

/-! ### Loads, stores and the stack (41_load.md) -/

/-- `LD r,r'`, `LD r,(HL)` and `LD r,n8` (R281, R282, R284): the 63 constructors `ldBB` to `ldAA` whose destination is a
register, and `ldBN8` to `ldAN8`. -/
def Obligations.LoadRegister : Prop :=
  ∀ (dst r : Reg8) (n : Byte) (s : State),
    (encode (ldInstr (.reg dst) (.reg r)) = [1#2 ++ codeOfR8 (.reg dst) ++ codeOfR8 (.reg r)] ∧
      exec (ldInstr (.reg dst) (.reg r)) s = .next { s with cpu := s.cpu.set dst (s.cpu.get r), cycles := 1 }) ∧
    (encode (ldInstr (.reg dst) .atHl) = [1#2 ++ codeOfR8 (.reg dst) ++ 6#3] ∧
      exec (ldInstr (.reg dst) .atHl) s =
        .next { s with cpu := s.cpu.set dst (memRead s s.cpu.hl), cycles := 2 }) ∧
    (encode (ldImmInstr (.reg dst) n) = [0#2 ++ codeOfR8 (.reg dst) ++ 6#3, n] ∧
      exec (ldImmInstr (.reg dst) n) s = .next { s with cpu := s.cpu.set dst n, cycles := 2 })

/-- `LD (HL),r` and `LD (HL),n8` (R283, R285): the constructors `ldAtHlB` to `ldAtHlA` and `ldAtHlN8`. -/
def Obligations.StoreAtHl : Prop :=
  ∀ (r : Reg8) (n : Byte) (s : State),
    (encode (ldInstr .atHl (.reg r)) = [0b01110#5 ++ codeOfR8 (.reg r)] ∧
      exec (ldInstr .atHl (.reg r)) s =
        .next { memWrite s s.cpu.hl (s.cpu.get r) with cpu := s.cpu, cycles := 2 }) ∧
    (encode (.ldAtHlN8 n) = [0x36, n] ∧
      exec (.ldAtHlN8 n) s = .next { memWrite s s.cpu.hl n with cpu := s.cpu, cycles := 3 })

/-- The loads of A from memory (R286, R287, R292, R293, R294, R296, R298): `ldAAtBc`, `ldAAtDe`, `ldAAtHlInc`,
`ldAAtHlDec`, `ldAAtN16`, `ldhAAtN8` and `ldhAAtC`. -/
def Obligations.LoadAccumulator : Prop :=
  ∀ (n : Word) (b : Byte) (s : State),
    (encode .ldAAtBc = [0x0A] ∧
      exec .ldAAtBc s = .next { s with cpu := { s.cpu with a := memRead s s.cpu.bc }, cycles := 2 }) ∧
    (encode .ldAAtDe = [0x1A] ∧
      exec .ldAAtDe s = .next { s with cpu := { s.cpu with a := memRead s s.cpu.de }, cycles := 2 }) ∧
    (encode .ldAAtHlInc = [0x2A] ∧
      exec .ldAAtHlInc s = .next { s with
        cpu := { s.cpu with a := memRead s s.cpu.hl, h := hiByte (s.cpu.hl + 1), l := loByte (s.cpu.hl + 1) }
        cycles := 2 }) ∧
    (encode .ldAAtHlDec = [0x3A] ∧
      exec .ldAAtHlDec s = .next { s with
        cpu := { s.cpu with a := memRead s s.cpu.hl, h := hiByte (s.cpu.hl - 1), l := loByte (s.cpu.hl - 1) }
        cycles := 2 }) ∧
    (encode (.ldAAtN16 n) = [0xFA, loByte n, hiByte n] ∧
      exec (.ldAAtN16 n) s = .next { s with cpu := { s.cpu with a := memRead s n }, cycles := 4 }) ∧
    (encode (.ldhAAtN8 b) = [0xF0, b] ∧
      exec (.ldhAAtN8 b) s =
        .next { s with cpu := { s.cpu with a := memRead s (0xFF00 + b.setWidth 16) }, cycles := 3 }) ∧
    (encode .ldhAAtC = [0xF2] ∧
      exec .ldhAAtC s =
        .next { s with cpu := { s.cpu with a := memRead s (0xFF00 + s.cpu.c.setWidth 16) }, cycles := 2 })

/-- The stores of A (R288, R289, R290, R291, R295, R297, R299): `ldAtBcA`, `ldAtDeA`, `ldAtHlIncA`, `ldAtHlDecA`,
`ldAtN16A`, `ldhAtN8A` and `ldhAtCA`. -/
def Obligations.StoreAccumulator : Prop :=
  ∀ (n : Word) (b : Byte) (s : State),
    (encode .ldAtBcA = [0x02] ∧
      exec .ldAtBcA s = .next { memWrite s s.cpu.bc s.cpu.a with cpu := s.cpu, cycles := 2 }) ∧
    (encode .ldAtDeA = [0x12] ∧
      exec .ldAtDeA s = .next { memWrite s s.cpu.de s.cpu.a with cpu := s.cpu, cycles := 2 }) ∧
    (encode .ldAtHlIncA = [0x22] ∧
      exec .ldAtHlIncA s = .next { memWrite s s.cpu.hl s.cpu.a with
        cpu := { s.cpu with h := hiByte (s.cpu.hl + 1), l := loByte (s.cpu.hl + 1) }, cycles := 2 }) ∧
    (encode .ldAtHlDecA = [0x32] ∧
      exec .ldAtHlDecA s = .next { memWrite s s.cpu.hl s.cpu.a with
        cpu := { s.cpu with h := hiByte (s.cpu.hl - 1), l := loByte (s.cpu.hl - 1) }, cycles := 2 }) ∧
    (encode (.ldAtN16A n) = [0xEA, loByte n, hiByte n] ∧
      exec (.ldAtN16A n) s = .next { memWrite s n s.cpu.a with cpu := s.cpu, cycles := 4 }) ∧
    (encode (.ldhAtN8A b) = [0xE0, b] ∧
      exec (.ldhAtN8A b) s =
        .next { memWrite s (0xFF00 + b.setWidth 16) s.cpu.a with cpu := s.cpu, cycles := 3 }) ∧
    (encode .ldhAtCA = [0xE2] ∧
      exec .ldhAtCA s =
        .next { memWrite s (0xFF00 + s.cpu.c.setWidth 16) s.cpu.a with cpu := s.cpu, cycles := 2 })

/-- `LD rr,n16` and `LD SP,HL` (R300, R302): `ldBcN16`, `ldDeN16`, `ldHlN16`, `ldSpN16` and `ldSpHl`. -/
def Obligations.LoadPair : Prop :=
  ∀ (n : Word) (s : State),
    (encode (.ldBcN16 n) = [0b00000001, loByte n, hiByte n] ∧
      exec (.ldBcN16 n) s = .next { s with cpu := { s.cpu with b := hiByte n, c := loByte n }, cycles := 3 }) ∧
    (encode (.ldDeN16 n) = [0b00010001, loByte n, hiByte n] ∧
      exec (.ldDeN16 n) s = .next { s with cpu := { s.cpu with d := hiByte n, e := loByte n }, cycles := 3 }) ∧
    (encode (.ldHlN16 n) = [0b00100001, loByte n, hiByte n] ∧
      exec (.ldHlN16 n) s = .next { s with cpu := { s.cpu with h := hiByte n, l := loByte n }, cycles := 3 }) ∧
    (encode (.ldSpN16 n) = [0b00110001, loByte n, hiByte n] ∧
      exec (.ldSpN16 n) s = .next { s with cpu := { s.cpu with sp := n }, cycles := 3 }) ∧
    (encode .ldSpHl = [0xF9] ∧
      exec .ldSpHl s = .next { s with cpu := { s.cpu with sp := s.cpu.hl }, cycles := 2 })

/-- `LD (n16),SP` and `PUSH rr` (R301, R304): two bytes stored, in the order the rule lists them; `ldAtN16Sp`, `pushBc`,
`pushDe`, `pushHl` and `pushAf`. -/
def Obligations.StorePair : Prop :=
  ∀ (n : Word) (s : State),
    (encode (.ldAtN16Sp n) = [0x08, loByte n, hiByte n] ∧
      exec (.ldAtN16Sp n) s = .next { memWrite (memWrite s n (loByte s.cpu.sp)) (n + 1) (hiByte s.cpu.sp) with
        cpu := s.cpu, cycles := 5 }) ∧
    (encode .pushBc = [0b11000101] ∧
      exec .pushBc s = .next { memWrite (memWrite s (s.cpu.sp - 1) s.cpu.b) (s.cpu.sp - 2) s.cpu.c with
        cpu := { s.cpu with sp := s.cpu.sp - 2 }, cycles := 4 }) ∧
    (encode .pushDe = [0b11010101] ∧
      exec .pushDe s = .next { memWrite (memWrite s (s.cpu.sp - 1) s.cpu.d) (s.cpu.sp - 2) s.cpu.e with
        cpu := { s.cpu with sp := s.cpu.sp - 2 }, cycles := 4 }) ∧
    (encode .pushHl = [0b11100101] ∧
      exec .pushHl s = .next { memWrite (memWrite s (s.cpu.sp - 1) s.cpu.h) (s.cpu.sp - 2) s.cpu.l with
        cpu := { s.cpu with sp := s.cpu.sp - 2 }, cycles := 4 }) ∧
    (encode .pushAf = [0b11110101] ∧
      exec .pushAf s = .next { memWrite (memWrite s (s.cpu.sp - 1) s.cpu.a) (s.cpu.sp - 2) s.cpu.f with
        cpu := { s.cpu with sp := s.cpu.sp - 2 }, cycles := 4 })

/-- `POP rr` (R303): `popBc`, `popDe`, `popHl` and `popAf`; a popped F keeps bits 7..4 only. -/
def Obligations.PopPair : Prop :=
  ∀ s : State,
    (encode .popBc = [0b11000001] ∧
      exec .popBc s = .next { s with
        cpu := { s.cpu with b := memRead s (s.cpu.sp + 1), c := memRead s s.cpu.sp, sp := s.cpu.sp + 2 }
        cycles := 3 }) ∧
    (encode .popDe = [0b11010001] ∧
      exec .popDe s = .next { s with
        cpu := { s.cpu with d := memRead s (s.cpu.sp + 1), e := memRead s s.cpu.sp, sp := s.cpu.sp + 2 }
        cycles := 3 }) ∧
    (encode .popHl = [0b11100001] ∧
      exec .popHl s = .next { s with
        cpu := { s.cpu with h := memRead s (s.cpu.sp + 1), l := memRead s s.cpu.sp, sp := s.cpu.sp + 2 }
        cycles := 3 }) ∧
    (encode .popAf = [0b11110001] ∧
      exec .popAf s = .next { s with
        cpu := { s.cpu with a := memRead s (s.cpu.sp + 1), f := memRead s s.cpu.sp &&& 0xF0, sp := s.cpu.sp + 2 }
        cycles := 3 })

/-! ### 8-bit arithmetic and logic (42_alu8.md) -/

/-- `ADD A,v` and `ADC A,v` in their three forms (R331, R332 with R330): 18 constructors. -/
def Obligations.AddAdc : Prop :=
  ∀ (s : State) (i : Instr) (bytes : List Byte) (v : Byte) (n : Nat),
    (AluForm .add s i bytes v n → encode i = bytes ∧
      exec i s = .next { s with
        cpu := { s.cpu with
          a := BitVec.ofNat 8 (s.cpu.a.toNat + v.toNat)
          f := flagByte { z := decide ((s.cpu.a.toNat + v.toNat) % 256 = 0), n := false
                          h := decide (s.cpu.a.toNat % 16 + v.toNat % 16 > 15)
                          c := decide (s.cpu.a.toNat + v.toNat > 255) } }
        cycles := n }) ∧
    (AluForm .adc s i bytes v n → encode i = bytes ∧
      exec i s = .next { s with
        cpu := { s.cpu with
          a := BitVec.ofNat 8 (s.cpu.a.toNat + v.toNat + s.cpu.flags.c.toNat)
          f := flagByte { z := decide ((s.cpu.a.toNat + v.toNat + s.cpu.flags.c.toNat) % 256 = 0), n := false
                          h := decide (s.cpu.a.toNat % 16 + v.toNat % 16 + s.cpu.flags.c.toNat > 15)
                          c := decide (s.cpu.a.toNat + v.toNat + s.cpu.flags.c.toNat > 255) } }
        cycles := n })

/-- `SUB A,v`, `SBC A,v` and `CP A,v` in their three forms (R333, R334, R338 with R330): 27 constructors. CP leaves A.
-/
def Obligations.SubSbcCp : Prop :=
  ∀ (s : State) (i : Instr) (bytes : List Byte) (v : Byte) (n : Nat),
    (AluForm .sub s i bytes v n → encode i = bytes ∧
      exec i s = .next { s with
        cpu := { s.cpu with
          a := BitVec.ofInt 8 ((s.cpu.a.toNat : Int) - v.toNat)
          f := flagByte { z := decide (((s.cpu.a.toNat : Int) - v.toNat) % 256 = 0), n := true
                          h := decide (s.cpu.a.toNat % 16 < v.toNat % 16), c := decide (s.cpu.a.toNat < v.toNat) } }
        cycles := n }) ∧
    (AluForm .sbc s i bytes v n → encode i = bytes ∧
      exec i s = .next { s with
        cpu := { s.cpu with
          a := BitVec.ofInt 8 ((s.cpu.a.toNat : Int) - v.toNat - s.cpu.flags.c.toNat)
          f := flagByte { z := decide (((s.cpu.a.toNat : Int) - v.toNat - s.cpu.flags.c.toNat) % 256 = 0), n := true
                          h := decide (s.cpu.a.toNat % 16 < v.toNat % 16 + s.cpu.flags.c.toNat)
                          c := decide (s.cpu.a.toNat < v.toNat + s.cpu.flags.c.toNat) } }
        cycles := n }) ∧
    (AluForm .cp s i bytes v n → encode i = bytes ∧
      exec i s = .next { s with
        cpu := { s.cpu with
          f := flagByte { z := decide (((s.cpu.a.toNat : Int) - v.toNat) % 256 = 0), n := true
                          h := decide (s.cpu.a.toNat % 16 < v.toNat % 16), c := decide (s.cpu.a.toNat < v.toNat) } }
        cycles := n })

/-- `AND A,v`, `XOR A,v` and `OR A,v` in their three forms (R335, R336, R337 with R330): 27 constructors. -/
def Obligations.AndXorOr : Prop :=
  ∀ (s : State) (i : Instr) (bytes : List Byte) (v : Byte) (n : Nat),
    (AluForm .and s i bytes v n → encode i = bytes ∧
      exec i s = .next { s with
        cpu := { s.cpu with
          a := s.cpu.a &&& v
          f := flagByte { z := decide (s.cpu.a &&& v = 0), n := false, h := true, c := false } }
        cycles := n }) ∧
    (AluForm .xor s i bytes v n → encode i = bytes ∧
      exec i s = .next { s with
        cpu := { s.cpu with
          a := s.cpu.a ^^^ v
          f := flagByte { z := decide (s.cpu.a ^^^ v = 0), n := false, h := false, c := false } }
        cycles := n }) ∧
    (AluForm .or s i bytes v n → encode i = bytes ∧
      exec i s = .next { s with
        cpu := { s.cpu with
          a := s.cpu.a ||| v
          f := flagByte { z := decide (s.cpu.a ||| v = 0), n := false, h := false, c := false } }
        cycles := n })

/-- `INC r`, `INC (HL)`, `DEC r` and `DEC (HL)` (R339, R340): 16 constructors; C is unchanged. -/
def Obligations.IncDecByte : Prop :=
  ∀ (r : Reg8) (s : State),
    (encode (incInstr (.reg r)) = [0#2 ++ codeOfR8 (.reg r) ++ 0b100#3] ∧
      exec (incInstr (.reg r)) s = .next { s with
        cpu := { s.cpu.set r (BitVec.ofNat 8 ((s.cpu.get r).toNat + 1)) with
          f := flagByte { z := decide (((s.cpu.get r).toNat + 1) % 256 = 0), n := false
                          h := decide ((s.cpu.get r).toNat % 16 = 15), c := s.cpu.flags.c } }
        cycles := 1 }) ∧
    (encode (incInstr .atHl) = [0x34] ∧
      exec (incInstr .atHl) s =
        .next { memWrite s s.cpu.hl (BitVec.ofNat 8 ((memRead s s.cpu.hl).toNat + 1)) with
          cpu := { s.cpu with
            f := flagByte { z := decide (((memRead s s.cpu.hl).toNat + 1) % 256 = 0), n := false
                            h := decide ((memRead s s.cpu.hl).toNat % 16 = 15), c := s.cpu.flags.c } }
          cycles := 3 }) ∧
    (encode (decInstr (.reg r)) = [0#2 ++ codeOfR8 (.reg r) ++ 0b101#3] ∧
      exec (decInstr (.reg r)) s = .next { s with
        cpu := { s.cpu.set r (BitVec.ofInt 8 ((s.cpu.get r).toNat - 1)) with
          f := flagByte { z := decide (((s.cpu.get r).toNat - 1 : Int) % 256 = 0), n := true
                          h := decide ((s.cpu.get r).toNat % 16 = 0), c := s.cpu.flags.c } }
        cycles := 1 }) ∧
    (encode (decInstr .atHl) = [0x35] ∧
      exec (decInstr .atHl) s =
        .next { memWrite s s.cpu.hl (BitVec.ofInt 8 ((memRead s s.cpu.hl).toNat - 1)) with
          cpu := { s.cpu with
            f := flagByte { z := decide (((memRead s s.cpu.hl).toNat - 1 : Int) % 256 = 0), n := true
                            h := decide ((memRead s s.cpu.hl).toNat % 16 = 0), c := s.cpu.flags.c } }
          cycles := 3 })

/-- `RLCA`, `RRCA`, `RLA` and `RRA` (R341-R344): Z is 0 whatever the result. -/
def Obligations.AccRotate : Prop :=
  ∀ s : State,
    let a := s.cpu.a.toNat
    let c := s.cpu.flags.c.toNat
    (encode .rlca = [0x07] ∧
      exec .rlca s = .next { s with
        cpu := { s.cpu with
          a := BitVec.ofNat 8 (2 * a + a / 128)
          f := flagByte { z := false, n := false, h := false, c := decide (a / 128 = 1) } }
        cycles := 1 }) ∧
    (encode .rrca = [0x0F] ∧
      exec .rrca s = .next { s with
        cpu := { s.cpu with
          a := BitVec.ofNat 8 (a / 2 + 128 * (a % 2))
          f := flagByte { z := false, n := false, h := false, c := decide (a % 2 = 1) } }
        cycles := 1 }) ∧
    (encode .rla = [0x17] ∧
      exec .rla s = .next { s with
        cpu := { s.cpu with
          a := BitVec.ofNat 8 (2 * a + c)
          f := flagByte { z := false, n := false, h := false, c := decide (a / 128 = 1) } }
        cycles := 1 }) ∧
    (encode .rra = [0x1F] ∧
      exec .rra s = .next { s with
        cpu := { s.cpu with
          a := BitVec.ofNat 8 (a / 2 + 128 * c)
          f := flagByte { z := false, n := false, h := false, c := decide (a % 2 = 1) } }
        cycles := 1 })

/-- `DAA` by the pseudocode of R345, on integers: the second test reads the low nibble after the first adjustment. -/
def Obligations.DecimalAdjust : Prop :=
  ∀ s : State,
    let a : Int := s.cpu.a.toNat
    let g := s.cpu.flags
    let high := if g.n then g.c else g.c || decide (a > 0x99)
    let a1 := if high then (if g.n then a - 0x60 else a + 0x60) else a
    let low := if g.n then g.h else g.h || decide (a1 % 16 > 9)
    let a2 := if low then (if g.n then a1 - 0x06 else a1 + 0x06) else a1
    encode .daa = [0x27] ∧
    exec .daa s = .next { s with
      cpu := { s.cpu with
        a := BitVec.ofInt 8 a2
        f := flagByte { z := decide (a2 % 256 = 0), n := g.n, h := false, c := high } }
      cycles := 1 }

/-- `CPL`, `SCF` and `CCF` (R346, R347, R348). -/
def Obligations.AccFlags : Prop :=
  ∀ s : State,
    (encode .cpl = [0x2F] ∧
      exec .cpl s = .next { s with
        cpu := { s.cpu with
          a := BitVec.ofNat 8 (255 - s.cpu.a.toNat)
          f := flagByte { z := s.cpu.flags.z, n := true, h := true, c := s.cpu.flags.c } }
        cycles := 1 }) ∧
    (encode .scf = [0x37] ∧
      exec .scf s = .next { s with
        cpu := { s.cpu with f := flagByte { z := s.cpu.flags.z, n := false, h := false, c := true } }
        cycles := 1 }) ∧
    (encode .ccf = [0x3F] ∧
      exec .ccf s = .next { s with
        cpu := { s.cpu with f := flagByte { z := s.cpu.flags.z, n := false, h := false, c := !s.cpu.flags.c } }
        cycles := 1 })

/-! ### 16-bit arithmetic (43_alu16.md) -/

/-- `INC rr` and `DEC rr` (R381, R382): eight constructors; the pair is read and written through R204's table. -/
def Obligations.IncDecPair : Prop :=
  ∀ (r : R16) (s : State),
    (encode (incPairInstr r) = [0#2 ++ codeOfR16 r ++ 0b0011#4] ∧
      exec (incPairInstr r) s = .next { s with
        cpu := writeR16 s.cpu r (BitVec.ofNat 16 ((readR16 s.cpu r).toNat + 1)), cycles := 2 }) ∧
    (encode (decPairInstr r) = [0#2 ++ codeOfR16 r ++ 0b1011#4] ∧
      exec (decPairInstr r) s = .next { s with
        cpu := writeR16 s.cpu r (BitVec.ofInt 16 ((readR16 s.cpu r).toNat - 1)), cycles := 2 }) ∧
    (∀ v : Word, readR16 (writeR16 s.cpu r v) r = v ∧ (writeR16 s.cpu r v).f = s.cpu.f)

/-- `ADD HL,rr` (R383): `addHlBc`, `addHlDe`, `addHlHl` and `addHlSp`; Z is unchanged. -/
def Obligations.AddPair : Prop :=
  ∀ (r : R16) (s : State),
    let h := s.cpu.hl.toNat
    let v := (readR16 s.cpu r).toNat
    encode (addHlInstr r) = [0#2 ++ codeOfR16 r ++ 0b1001#4] ∧
    exec (addHlInstr r) s = .next { s with
      cpu := { s.cpu with
        h := BitVec.ofNat 8 ((h + v) / 256), l := BitVec.ofNat 8 (h + v)
        f := flagByte { z := s.cpu.flags.z, n := false
                        h := decide (h % 0x1000 + v % 0x1000 > 0x0FFF), c := decide (h + v > 0xFFFF) } }
      cycles := 2 }

/-- `ADD SP,e8` and `LD HL,SP+e8` (R384, R385): both carries come from the unsigned low bytes. -/
def Obligations.SpOffset : Prop :=
  ∀ (e : Byte) (s : State),
    let p := s.cpu.sp.toNat
    let sum : Word := BitVec.ofInt 16 (p + e.toInt)
    let g : Byte := flagByte { z := false, n := false, h := decide (p % 16 + e.toNat % 16 > 15)
                               c := decide (p % 256 + e.toNat > 255) }
    (encode (.addSpE8 e) = [0xE8, e] ∧
      exec (.addSpE8 e) s = .next { s with cpu := { s.cpu with sp := sum, f := g }, cycles := 4 }) ∧
    (encode (.ldHlSpE8 e) = [0xF8, e] ∧
      exec (.ldHlSpE8 e) s =
        .next { s with cpu := { s.cpu with h := hiByte sum, l := loByte sum, f := g }, cycles := 3 })

/-! ### CB-prefixed instructions (44_cb_prefix.md) -/

/-- The shifts and rotates (R401-R408 with R400): 64 constructors. `spec` gives the result, before `& 0xFF`, and the bit
that goes to C, from the operand `o` and flag C as numbers. -/
def Obligations.ShiftRotate : Prop :=
  ∀ (op : RotOp) (r : Reg8) (s : State),
    let spec : Nat → Nat × Nat := fun o =>
      match op with
      | .rlc => (2 * o + o / 128, o / 128)
      | .rrc => (o / 2 + 128 * (o % 2), o % 2)
      | .rl => (2 * o + s.cpu.flags.c.toNat, o / 128)
      | .rr => (o / 2 + 128 * s.cpu.flags.c.toNat, o % 2)
      | .sla => (2 * o, o / 128)
      | .sra => (o / 2 + 128 * (o / 128), o % 2)
      | .swap => (16 * o + o / 16, 0)
      | .srl => (o / 2, o % 2)
    let g : Nat → Byte := fun o => flagByte
      { z := decide ((spec o).1 % 256 = 0), n := false, h := false, c := decide ((spec o).2 = 1) }
    (encode (rotInstr op (.reg r)) = [0xCB, 0#2 ++ codeOfRot op ++ codeOfR8 (.reg r)] ∧
      exec (rotInstr op (.reg r)) s = .next { s with
        cpu := { s.cpu.set r (BitVec.ofNat 8 (spec (s.cpu.get r).toNat).1) with f := g (s.cpu.get r).toNat }
        cycles := 2 }) ∧
    (encode (rotInstr op .atHl) = [0xCB, 0#2 ++ codeOfRot op ++ 6#3] ∧
      exec (rotInstr op .atHl) s =
        .next { memWrite s s.cpu.hl (BitVec.ofNat 8 (spec (memRead s s.cpu.hl).toNat).1) with
          cpu := { s.cpu with f := g (memRead s s.cpu.hl).toNat }, cycles := 4 })

/-- `BIT b,r` (R409): 64 constructors; the operand is not written and C is unchanged. -/
def Obligations.TestBit : Prop :=
  ∀ (b : BitIx) (r : Reg8) (s : State),
    let g : Byte → Byte := fun o => flagByte
      { z := decide (o.toNat / 2 ^ bitNumber b % 2 = 0), n := false, h := true, c := s.cpu.flags.c }
    (encode (bitInstr b (.reg r)) = [0xCB, 1#2 ++ codeOfBit b ++ codeOfR8 (.reg r)] ∧
      exec (bitInstr b (.reg r)) s =
        .next { s with cpu := { s.cpu with f := g (s.cpu.get r) }, cycles := 2 }) ∧
    (encode (bitInstr b .atHl) = [0xCB, 1#2 ++ codeOfBit b ++ 6#3] ∧
      exec (bitInstr b .atHl) s =
        .next { s with cpu := { s.cpu with f := g (memRead s s.cpu.hl) }, cycles := 3 })

/-- `RES b,r` and `SET b,r` (R410, R411): 128 constructors; no flag changes. -/
def Obligations.ResetSetBit : Prop :=
  ∀ (b : BitIx) (r : Reg8) (s : State),
    (encode (resInstr b (.reg r)) = [0xCB, 2#2 ++ codeOfBit b ++ codeOfR8 (.reg r)] ∧
      exec (resInstr b (.reg r)) s = .next { s with
        cpu := s.cpu.set r (s.cpu.get r &&& ~~~ (BitVec.ofNat 8 (2 ^ bitNumber b))), cycles := 2 }) ∧
    (encode (resInstr b .atHl) = [0xCB, 2#2 ++ codeOfBit b ++ 6#3] ∧
      exec (resInstr b .atHl) s =
        .next { memWrite s s.cpu.hl (memRead s s.cpu.hl &&& ~~~ (BitVec.ofNat 8 (2 ^ bitNumber b))) with
          cpu := s.cpu, cycles := 4 }) ∧
    (encode (setInstr b (.reg r)) = [0xCB, 3#2 ++ codeOfBit b ++ codeOfR8 (.reg r)] ∧
      exec (setInstr b (.reg r)) s = .next { s with
        cpu := s.cpu.set r (s.cpu.get r ||| BitVec.ofNat 8 (2 ^ bitNumber b)), cycles := 2 }) ∧
    (encode (setInstr b .atHl) = [0xCB, 3#2 ++ codeOfBit b ++ 6#3] ∧
      exec (setInstr b .atHl) s =
        .next { memWrite s s.cpu.hl (memRead s s.cpu.hl ||| BitVec.ofNat 8 (2 ^ bitNumber b)) with
          cpu := s.cpu, cycles := 4 })

/-- The prefix byte (R467): its row runs the instruction of the prefixed table, for every second byte, and completes; no
three bytes decode to the prefix alone. -/
def Obligations.PrefixRow : Prop :=
  ∀ (x : Byte) (s : State),
    exec (.prefixCb x) s = exec (decodeCb x) s ∧ (∃ t, exec (.prefixCb x) s = .next t) ∧
    encode (decodeCb x) = [0xCB, x] ∧ ∀ b0 b1 b2 : Byte, decodeBytes b0 b1 b2 ≠ .prefixCb x

/-! ### Jumps, calls, returns and restarts (45_control.md); `pc'` is the PC that `exec` gets (R430) -/

/-- The jumps (R431-R435): `jpN16`, `jpHl`, `jrE8` and the eight conditional forms, taken and not taken. -/
def Obligations.Jumps : Prop :=
  ∀ (n : Word) (e : Byte) (s : State),
    let go : Word → Nat → Host.Outcome State Fault Refusal := fun pc k =>
      .next { s with cpu := { s.cpu with pc := pc }, cycles := k }
    let rel : Word := BitVec.ofInt 16 (s.cpu.pc.toNat + e.toInt)
    let next : Word := s.cpu.pc
    let z := s.cpu.flags.z
    let c := s.cpu.flags.c
    (encode (.jpN16 n) = [0xC3, loByte n, hiByte n] ∧ exec (.jpN16 n) s = go n 4) ∧
    (encode .jpHl = [0xE9] ∧ exec .jpHl s = go s.cpu.hl 1) ∧
    (encode (.jrE8 e) = [0x18, e] ∧ exec (.jrE8 e) s = go rel 3) ∧
    (encode (.jpNzN16 n) = [0xC2, loByte n, hiByte n] ∧ exec (.jpNzN16 n) s = if z then go next 3 else go n 4) ∧
    (encode (.jpZN16 n) = [0xCA, loByte n, hiByte n] ∧ exec (.jpZN16 n) s = if z then go n 4 else go next 3) ∧
    (encode (.jpNcN16 n) = [0xD2, loByte n, hiByte n] ∧ exec (.jpNcN16 n) s = if c then go next 3 else go n 4) ∧
    (encode (.jpCN16 n) = [0xDA, loByte n, hiByte n] ∧ exec (.jpCN16 n) s = if c then go n 4 else go next 3) ∧
    (encode (.jrNzE8 e) = [0x20, e] ∧ exec (.jrNzE8 e) s = if z then go next 2 else go rel 3) ∧
    (encode (.jrZE8 e) = [0x28, e] ∧ exec (.jrZE8 e) s = if z then go rel 3 else go next 2) ∧
    (encode (.jrNcE8 e) = [0x30, e] ∧ exec (.jrNcE8 e) s = if c then go next 2 else go rel 3) ∧
    (encode (.jrCE8 e) = [0x38, e] ∧ exec (.jrCE8 e) s = if c then go rel 3 else go next 2)

/-- The calls and restarts (R436, R437, R440): `callN16`, the four conditional calls, and `rst00` to `rst38`; `pc'` is
pushed, the high byte first. -/
def Obligations.CallsRestarts : Prop :=
  ∀ (n : Word) (t : RstTarget) (s : State),
    let go : Word → Nat → Host.Outcome State Fault Refusal := fun pc k =>
      .next { memWrite (memWrite s (s.cpu.sp - 1) (hiByte s.cpu.pc)) (s.cpu.sp - 2) (loByte s.cpu.pc) with
        cpu := { s.cpu with sp := s.cpu.sp - 2, pc := pc }, cycles := k }
    let stay : Host.Outcome State Fault Refusal := .next { s with cycles := 3 }
    let z := s.cpu.flags.z
    let c := s.cpu.flags.c
    (encode (.callN16 n) = [0xCD, loByte n, hiByte n] ∧ exec (.callN16 n) s = go n 6) ∧
    (encode (.callNzN16 n) = [0xC4, loByte n, hiByte n] ∧ exec (.callNzN16 n) s = if z then stay else go n 6) ∧
    (encode (.callZN16 n) = [0xCC, loByte n, hiByte n] ∧ exec (.callZN16 n) s = if z then go n 6 else stay) ∧
    (encode (.callNcN16 n) = [0xD4, loByte n, hiByte n] ∧ exec (.callNcN16 n) s = if c then stay else go n 6) ∧
    (encode (.callCN16 n) = [0xDC, loByte n, hiByte n] ∧ exec (.callCN16 n) s = if c then go n 6 else stay) ∧
    (encode (rstInstr t) = [3#2 ++ codeOfRst t ++ 7#3] ∧
      exec (rstInstr t) s = go (BitVec.ofNat 16 ((codeOfRst t).toNat * 8)) 4)

/-- The returns (R438, R439, R444): `ret`, the four conditional returns, and `reti`, which also sets IME at once and
drops a pending EI. -/
def Obligations.Returns : Prop :=
  ∀ s : State,
    let target : Word := memRead s (s.cpu.sp + 1) ++ memRead s s.cpu.sp
    let go : Nat → Host.Outcome State Fault Refusal := fun k =>
      .next { s with cpu := { s.cpu with sp := s.cpu.sp + 2, pc := target }, cycles := k }
    let stay : Host.Outcome State Fault Refusal := .next { s with cycles := 2 }
    let z := s.cpu.flags.z
    let c := s.cpu.flags.c
    (encode .ret = [0xC9] ∧ exec .ret s = go 4) ∧
    (encode .retNz = [0xC0] ∧ exec .retNz s = if z then stay else go 5) ∧
    (encode .retZ = [0xC8] ∧ exec .retZ s = if z then go 5 else stay) ∧
    (encode .retNc = [0xD0] ∧ exec .retNc s = if c then stay else go 5) ∧
    (encode .retC = [0xD8] ∧ exec .retC s = if c then go 5 else stay) ∧
    (encode .reti = [0xD9] ∧
      exec .reti s = .next { s with
        cpu := { s.cpu with sp := s.cpu.sp + 2, pc := target, ime := true, eiPending := false }, cycles := 4 })

/-! ### Processor control and the illegal opcodes (46_system.md) -/

/-- `NOP` and `DI` (R460, R464). -/
def Obligations.NopDi : Prop :=
  ∀ s : State,
    (encode .nop = [0x00] ∧ exec .nop s = .next { s with cycles := 1 }) ∧
    (encode .di = [0xF3] ∧
      exec .di s = .next { s with cpu := { s.cpu with ime := false, eiPending := false }, cycles := 1 })

/-- `HALT` and `EI` (R461, R463): HALT sets `halted` alone, EI sets `ei_pending` alone and not IME. -/
def Obligations.HaltEi : Prop :=
  ∀ s : State,
    (encode .halt = [0x76] ∧ exec .halt s = .next { s with cpu := { s.cpu with halted := true }, cycles := 1 }) ∧
    (encode .ei = [0xFB] ∧ exec .ei s = .next { s with cpu := { s.cpu with eiPending := true }, cycles := 1 })

/-- `STOP` (R462): under `nop2` it changes nothing but the PC its fetch advanced and costs 1 cycle; under `refuse` the
step refuses; the second byte takes no part. -/
def Obligations.StopModes : Prop :=
  ∀ (x : Byte) (s : State),
    encode (.stop x) = [0x10, x] ∧
    (s.stopMode = .nop2 → exec (.stop x) s = .next { s with cycles := 1 }) ∧
    (s.stopMode = .refuse → exec (.stop x) s = .refused .stopRefused)

/-- The eleven illegal opcodes (R465, the spec's choice D29): each costs 1 cycle, sets `locked` and changes nothing
else. -/
def Obligations.IllegalOpcodes : Prop :=
  ∀ (s : State) (i : Instr) (op : Byte),
    (i, op) ∈ ([(.illegalD3, 0xD3), (.illegalDB, 0xDB), (.illegalDD, 0xDD), (.illegalE3, 0xE3), (.illegalE4, 0xE4),
      (.illegalEB, 0xEB), (.illegalEC, 0xEC), (.illegalED, 0xED), (.illegalF4, 0xF4), (.illegalFC, 0xFC),
      (.illegalFD, 0xFD)] : List (Instr × Byte)) →
    encode i = [op] ∧ exec i s = .next { s with cpu := { s.cpu with locked := true }, cycles := 1 }

/-! ### The CPU step, interrupts and the system step (40_step.md, 60_exceptions.md) -/

/-- A step runs the decoded instruction (R251, R255, R256, R259, R260): when the CPU is not locked, no interrupt is
dispatched, and a halt, if any, is ended by a pending request, and the bytes at PC decode to `i`, then the step is `exec
i` on the state with `halted` cleared and PC past the instruction, then the delayed EI, then the devices by the cycle
count. -/
def Obligations.StepRunsDecoded : Prop :=
  ∀ (s : State) (i : Instr) (rest : List Byte),
    s.cpu.locked = false → (s.cpu.ime = false ∨ s.ieReg &&& s.ifReg &&& 0x1F = 0) →
    (s.cpu.halted = false ∨ s.ieReg &&& s.ifReg &&& 0x1F ≠ 0) →
    decode [memRead s s.cpu.pc, memRead s (s.cpu.pc + 1), memRead s (s.cpu.pc + 2)] = .ok (i, rest) →
    WellFormed i = true ∧
    step s =
      match exec i { s with cpu := { s.cpu with
          halted := false, pc := s.cpu.pc + BitVec.ofNat 16 (encode i).length } } with
      | .next t =>
        .next (advanceDevices t.cycles
          (if s.cpu.eiPending && t.cpu.eiPending then { t with cpu := { t.cpu with ime := true, eiPending := false } }
            else t))
      | .fault r => .fault r
      | .refused r => .refused r

/-- Dispatch (R506, with R504, R505 and R507): with IME set, the lowest pending enabled source k is acknowledged, IME
and `ei_pending` are cleared, PC is pushed, PC is 0x40 + 8k, and the step reports 5 cycles. That `ei_pending` is cleared
is the spec's own choice (D33). -/
def Obligations.DispatchInterrupt : Prop :=
  ∀ (s : State) (k : Nat),
    s.cpu.locked = false → s.cpu.ime = true → k < 5 → (s.ieReg &&& s.ifReg).getLsbD k = true →
    (∀ j < k, (s.ieReg &&& s.ifReg).getLsbD j = false) →
    cpuStep s = .next
      { memWrite (memWrite { s with ifReg := s.ifReg &&& ~~~ (BitVec.ofNat 8 (2 ^ k)) }
          (s.cpu.sp - 1) (hiByte s.cpu.pc)) (s.cpu.sp - 2) (loByte s.cpu.pc) with
        cpu := { s.cpu with
          halted := false, ime := false, eiPending := false, sp := s.cpu.sp - 2, pc := BitVec.ofNat 16 (0x40 + 8 * k) }
        cycles := 5 }

/-- A locked CPU step, and a halted one with no pending request, changes no CPU state and reports 1 cycle (R253, R254).
-/
def Obligations.HaltedLocked : Prop :=
  ∀ s : State,
    (s.cpu.locked = true → cpuStep s = .next { s with cycles := 1 }) ∧
    (s.cpu.locked = false → s.cpu.halted = true → s.ieReg &&& s.ifReg &&& 0x1F = 0 →
      cpuStep s = .next { s with cycles := 1 })

/-- The system step (R260): the CPU step, then 4n dots, then n timer cycles, with n the count it reports; a refusal ends
the run. That a dot and a timer cycle commute is what R260 marks as derived from R541 and R580. -/
def Obligations.SystemStep : Prop :=
  ∀ s : State,
    (∀ t, cpuStep s = .next t → step s = .next (timerCycle^[t.cycles] (ppuDot^[4 * t.cycles] t))) ∧
    (∀ r, cpuStep s = .refused r → step s = .refused r) ∧
    ppuDot (timerCycle s) = timerCycle (ppuDot s)

/-- The outcomes of a CPU step (R250, R720): a next state with 1 to 6 cycles, or the refusal of STOP under `refuse`;
never a fault. -/
def Obligations.StepOutcomes : Prop :=
  ∀ s : State,
    (∃ t, cpuStep s = .next t ∧ 1 ≤ t.cycles ∧ t.cycles ≤ 6) ∨
    (cpuStep s = .refused .stopRefused ∧ s.stopMode = .refuse ∧ memRead s s.cpu.pc = 0x10)

/-- What no system step changes (10_state.md R40, R41, R54; 20_memory.md R104, R118, R132, R133): the boot ROM, the ROM
image, the sizes and the STOP mode; the boot ROM is never mapped again, a locked CPU stays as it is, and only the host
moves the joypad latches. -/
def Obligations.StepKeeps : Prop :=
  ∀ s t : State, step s = .next t →
    t.bootRom = s.bootRom ∧ t.cart.rom = s.cart.rom ∧ t.cart.romLen = s.cart.romLen ∧
    t.cart.romSize = s.cart.romSize ∧ t.cart.ramLen = s.cart.ramLen ∧ t.stopMode = s.stopMode ∧
    (t.bootMapped = true → s.bootMapped = true) ∧ (s.cpu.locked = true → t.cpu = s.cpu) ∧
    t.joypad.action = s.joypad.action ∧ t.joypad.direction = s.joypad.direction

/-- The memory frame of every instruction (20_memory.md R123, R127): where `exec` answers a next state, every byte
outside those the instruction's stores reach reads as before. A form that stores nothing has no store address, so all of
memory reads as before. -/
def Obligations.MemoryFrame : Prop :=
  ∀ (i : Instr) (s t : State) (b : Word), exec i s = .next t →
    (∀ a, StoresTo s i a → ¬ StoreReaches (mirrorsRam s.cart.mbc) a b) → memRead t b = memRead s b

/-! ### The bus (20_memory.md) -/

/-- The echo, the gap, writes below 0x0100, and the boot-ROM-disable register (R104, R105, R106, R118): any write to
0xFF50 unmaps the boot ROM, and reads below 0x0100 then reach the cartridge. -/
def Obligations.BusRegions : Prop :=
  ∀ (s : State) (a : Word) (v : Byte),
    (0xE000 ≤ a.toNat → a.toNat < 0xFE00 →
      memRead s a = memRead s (a - 0x2000) ∧ memWrite s a v = memWrite s (a - 0x2000) v) ∧
    (0xFEA0 ≤ a.toNat → a.toNat < 0xFF00 → memRead s a = 0xFF ∧ memWrite s a v = s) ∧
    (a.toNat < 0x0100 → memWrite s a v = { s with cart := cartWrite s.cart a.toNat v }) ∧
    memWrite s 0xFF50 v = { s with bootOff := v, bootMapped := false } ∧
    (a.toNat < 0x0100 → memRead (memWrite s 0xFF50 v) a = cartRead s.cart a.toNat ∧
      (s.bootMapped = true → memRead s a = s.bootRom.read a.toNat))

/-- The round trip, which R108 marks as derived from R113 to R118: a byte written to VRAM, work RAM, its echo, OAM, high
RAM, IE or an I/O register other than P1, STAT and LY is read back. -/
def Obligations.RoundTrip : Prop :=
  ∀ (s : State) (a : Word) (v : Byte), MemInv s →
    (0x8000 ≤ a.toNat ∧ a.toNat < 0xA000 ∨ 0xC000 ≤ a.toNat ∧ a.toNat < 0xFEA0 ∨ 0xFF00 ≤ a.toNat) →
    a ≠ 0xFF00 → a ≠ 0xFF41 → a ≠ 0xFF44 → memRead (memWrite s a v) a = v

/-- P1, STAT and LY (R114, R115, R116). The STAT clause follows R115; that the rule and not vector P21, which contradicts
it, is followed is the model's choice (log 18). -/
def Obligations.SpecialRegisters : Prop :=
  ∀ (s : State) (v : Byte),
    (memWrite s 0xFF00 v = { s with joypad := { s.joypad with p1 := v &&& 0x30 } } ∧
      memRead s 0xFF00 = 0xC0 ||| (s.joypad.p1 &&& 0x30) ||| (joypadNibble s.joypad).setWidth 8) ∧
    (memWrite s 0xFF41 v = { s with ppu := { s.ppu with stat := (v &&& 0x78) ||| (s.ppu.stat &&& 0x07) } } ∧
      memRead s 0xFF41 = 0x80 ||| s.ppu.stat) ∧
    (memWrite s 0xFF44 v = s ∧ memRead s 0xFF44 = s.ppu.ly)

/-- The DMA copy (R117): after a write of v to 0xFF46, OAM byte i reads what `v << 8 + i` read, for i in 0..159, the
register reads v, and nothing else of the state has changed. -/
def Obligations.DmaCopy : Prop :=
  ∀ (s : State) (v : Byte), MemInv s →
    (∀ i < 160, memRead (memWrite s 0xFF46 v) (BitVec.ofNat 16 (0xFE00 + i)) =
      memRead { s with dma := v } (BitVec.ofNat 16 (256 * v.toNat + i))) ∧
    { memWrite s 0xFF46 v with oam := s.oam } = { s with dma := v }

/-! ### The cartridge (20_memory.md) -/

/-- Bank numbers are reduced to the banks there are (R134, R141, R142, R146, R151): with 2 << k banks of 16 KiB, the
switchable window shows the bank number modulo 2 << k. -/
def Obligations.RomBanks : Prop :=
  ∀ (c : Cart) (k n : Nat), c.romSize = 0x8000 <<< k → 0x4000 ≤ n → n < 0x8000 →
    (∀ m, c.mbc = .a m →
      cartRead c n = romByte c ((32 * m.bank2.toNat + m.bank1.toNat) % (2 <<< k) * 0x4000 + (n - 0x4000)) ∧
      cartRead c (n - 0x4000) =
        romByte c ((if m.mode then 32 * m.bank2.toNat % (2 <<< k) else 0) * 0x4000 + (n - 0x4000))) ∧
    (∀ m, c.mbc = .b m →
      cartRead c n = romByte c (m.bank.toNat % (2 <<< k) * 0x4000 + (n - 0x4000)) ∧
      cartRead c (n - 0x4000) = romByte c (n - 0x4000)) ∧
    (∀ m, c.mbc = .c m →
      cartRead c n = romByte c (m.bank.toNat % (2 <<< k) * 0x4000 + (n - 0x4000)) ∧
      cartRead c (n - 0x4000) = romByte c (n - 0x4000))

/-- The controller registers (R140, R145, R149, R150): what a write below 0x8000 does, by address. -/
def Obligations.ControllerWrites : Prop :=
  ∀ (c : Cart) (n : Nat) (v : Byte), n < 0x8000 →
    (∀ m, c.mbc = .a m → cartWrite c n v = { c with mbc := .a (
      if n < 0x2000 then { m with ramEnable := decide (v.toNat % 16 = 0x0A) }
      else if n < 0x4000 then { m with bank1 := if v.toNat % 32 = 0 then 1 else BitVec.ofNat 5 v.toNat }
      else if n < 0x6000 then { m with bank2 := BitVec.ofNat 2 v.toNat }
      else { m with mode := decide (v.toNat % 2 = 1) }) }) ∧
    (∀ m, c.mbc = .b m → cartWrite c n v = { c with mbc := .b (
      if n < 0x4000 then
        if n / 256 % 2 = 0 then { m with ramEnable := decide (v.toNat % 16 = 0x0A) }
        else { m with bank := if v.toNat % 16 = 0 then 1 else BitVec.ofNat 4 v.toNat }
      else m) }) ∧
    (∀ m, c.mbc = .c m → cartWrite c n v = { c with mbc := .c (
      if n < 0x2000 then { m with ramEnable := decide (v.toNat % 16 = 0x0A) }
      else if n < 0x4000 then { m with bank := if v.toNat % 128 = 0 then 1 else BitVec.ofNat 7 v.toNat }
      else if n < 0x6000 then { m with sel := v }
      else if m.latchLast = 0 ∧ v = 1 then { m with rtcLatched := m.rtcLive, latchLast := v }
      else { m with latchLast := v }) })

/-- The cartridge RAM window (R136, R138, R143, R147, R152, R153, R155): disabled RAM reads 0xFF and ignores writes,
enabled RAM reads back what was written where the RAM has the byte, Controller B keeps the low nibble and repeats every
512 bytes, Controller C's clock registers read the latched copy and write the live one, and an unknown controller reads
0xFF and ignores writes everywhere. -/
def Obligations.CartridgeRam : Prop :=
  ∀ (c : Cart) (n : Nat) (v : Byte), CartInv c → 0xA000 ≤ n → n < 0xC000 →
    (c.mbc = .none → n - 0xA000 < c.ramLen → cartRead (cartWrite c n v) n = v) ∧
    (∀ m, c.mbc = .a m →
      (m.ramEnable = false → cartRead c n = 0xFF ∧ cartWrite c n v = c) ∧
      (m.ramEnable = true → mbcARamOffset c m n < c.ramLen → cartRead (cartWrite c n v) n = v)) ∧
    (∀ m, c.mbc = .b m →
      (m.ramEnable = false → cartRead c n = 0xFF ∧ cartWrite c n v = c) ∧
      (m.ramEnable = true → ∀ j, 0xA000 ≤ j → j < 0xC000 → j % 512 = n % 512 →
        cartRead (cartWrite c n v) j = 0xF0 ||| (v &&& 0x0F))) ∧
    (∀ m, c.mbc = .c m →
      let clock : Rtc → List Byte := fun r => [r.seconds, r.minutes, r.hours, r.dayLow, r.dayHigh]
      let sel := m.sel.toNat
      (m.ramEnable = false → cartRead c n = 0xFF ∧ cartWrite c n v = c) ∧
      (m.ramEnable = true → sel ≤ 3 → mbcCRamOffset c m n < c.ramLen → cartRead (cartWrite c n v) n = v) ∧
      (m.ramEnable = true → 8 ≤ sel → sel ≤ 12 → m.hasRtc = true →
        cartRead c n = (clock m.rtcLatched).getD (sel - 8) 0 ∧
        ∃ r, cartWrite c n v = { c with mbc := .c { m with rtcLive := r } } ∧
          clock r = (clock m.rtcLive).set (sel - 8) (v &&& ([0x3F, 0x3F, 0x1F, 0xFF, 0xC1].getD (sel - 8) 0))) ∧
      (m.ramEnable = true → 3 < sel → (sel < 8 ∨ 12 < sel ∨ m.hasRtc = false) →
        cartRead c n = 0xFF ∧ cartWrite c n v = c)) ∧
    (c.mbc = .unknown → ∀ j w, cartRead c j = 0xFF ∧ cartWrite c j w = c)

/-! ### The PPU (60_exceptions.md) -/

/-- LCD off (R540): no dot changes anything. -/
def Obligations.LcdOff : Prop :=
  ∀ (s : State) (k : Nat), s.ppu.lcdc.getLsbD 7 = false → ppuDot^[k] s = s

/-- Frame timing, which R542 marks as derived from R541: with the LCD on, from any state whose mode, dot and line agree,
k dots advance the position in the frame of 154 lines of 456 dots by k, modulo 70224, and mode, dot and line agree
again. -/
def Obligations.FrameTiming : Prop :=
  ∀ (s : State) (k : Nat), s.ppu.lcdc.getLsbD 7 = true → InPosition s.ppu →
    InPosition (ppuDot^[k] s).ppu ∧
    (ppuDot^[k] s).ppu.ly.toNat * 456 + (ppuDot^[k] s).ppu.dot = (s.ppu.ly.toNat * 456 + s.ppu.dot + k) % 70224

/-- The end of a dot (R545, R547, and R546 in the spec's formalisation D39): STAT, the vblank and status requests and
the frame-ready flag, by the mode before and after the dot. -/
def Obligations.DotStatus : Prop :=
  ∀ s : State, s.ppu.lcdc.getLsbD 7 = true →
    let t := ppuDot s
    let enters : PpuMode → Bool := fun m => decide (t.ppu.mode = m) && decide (s.ppu.mode ≠ m)
    t.ppu.stat = (s.ppu.stat &&& 0x78) ||| (if t.ppu.ly = t.ppu.lyc then 0x04 else 0x00) ||| modeBits t.ppu.mode ∧
    t.ifReg = s.ifReg ||| (if enters .vblank then 0x01 else 0x00) |||
      (if (s.ppu.stat.getLsbD 6 && decide (t.ppu.ly = t.ppu.lyc) && !s.ppu.stat.getLsbD 2) ||
          (s.ppu.stat.getLsbD 3 && enters .hblank) || (s.ppu.stat.getLsbD 4 && enters .vblank) ||
          (s.ppu.stat.getLsbD 5 && enters .oamScan) then 0x02 else 0x00) ∧
    t.ppu.frameReady = (s.ppu.frameReady || enters .vblank)

/-- Sprite selection (R548): the list is ascending, and entry i is in it exactly when it covers the line and fewer than
ten entries before it do. -/
def Obligations.SpriteSelection : Prop :=
  ∀ (p : Ppu) (oam : Memory),
    let height := if p.lcdc.getLsbD 2 then 16 else 8
    let onLine : Nat → Bool := fun i =>
      decide ((oam.read (4 * i)).toNat ≤ p.ly.toNat + 16 ∧ p.ly.toNat + 16 < (oam.read (4 * i)).toNat + height)
    (selectSprites p oam).Pairwise (· < ·) ∧ (selectSprites p oam).length ≤ 10 ∧
    ∀ i, i ∈ selectSprites p oam ↔ i < 40 ∧ onLine i = true ∧ ((List.range i).filter onLine).length < 10

/-- Sprite priority at a pixel (R558, R559): among the listed sprites that cover the column with a non-zero index, the
one drawn is that of smallest X and, at equal X, of smallest table index; with none, no sprite is drawn. -/
def Obligations.SpritePriority : Prop :=
  ∀ (p : Ppu) (vram oam : Memory) (ly x : Nat),
    let opaqueAt : Nat → Prop := fun i => (oam.read (4 * i + 1)).toNat ≤ x + 8 ∧ x < (oam.read (4 * i + 1)).toNat ∧
      spriteIndex p vram (spriteAt oam i) ly x ≠ 0
    match p.spriteList.foldl (bestSprite p vram oam ly x) none with
    | none => ∀ i ∈ p.spriteList, ¬ opaqueAt i
    | some (o, c) => ∃ i ∈ p.spriteList, o = spriteAt oam i ∧ c = spriteIndex p vram (spriteAt oam i) ly x ∧
        opaqueAt i ∧ ∀ j ∈ p.spriteList, opaqueAt j → j ≠ i →
          (oam.read (4 * i + 1)).toNat < (oam.read (4 * j + 1)).toNat ∨
            (oam.read (4 * i + 1) = oam.read (4 * j + 1) ∧ i < j)

/-- A rendered line without window and sprites (R550, R553): row LY of the framebuffer becomes the background's shades,
the other rows stay; with LCDC bit 0 clear the row is all shade 0. -/
def Obligations.BackgroundLine : Prop :=
  ∀ (p : Ppu) (vram oam : Memory) (x : Nat),
    p.framebuffer.length = 144 → p.ly.toNat < 144 → x < 160 → p.lcdc.getLsbD 1 = false → p.lcdc.getLsbD 5 = false →
    let bgY := (p.ly.toNat + p.scy.toNat) % 256
    let bgX := (x + p.scx.toNat) % 256
    let tile := vram.read ((if p.lcdc.getLsbD 3 then 0x1C00 else 0x1800) + 32 * (bgY / 8) + bgX / 8)
    let row : Nat := if p.lcdc.getLsbD 4 then 16 * tile.toNat + 2 * (bgY % 8)
      else (0x1000 + 16 * tile.toInt + 2 * (bgY % 8 : Nat)).toNat
    let bit : Byte → Nat := fun v => v.toNat / 2 ^ (7 - bgX % 8) % 2
    let index := 2 * bit (vram.read (row + 1)) + bit (vram.read row)
    let shown : Nat := if p.lcdc.getLsbD 0 then p.bgp.toNat / 4 ^ index % 4 else 0
    let q := renderLine p vram oam
    q.framebuffer.length = 144 ∧
    ((q.framebuffer.getD p.ly.toNat []).getD x 0).toNat = shown ∧
    ∀ r < 144, r ≠ p.ly.toNat → q.framebuffer.getD r [] = p.framebuffer.getD r []

/-! ### The timer and the joypad (60_exceptions.md) -/

/-- DIV (R581, R584): from any state with the counter in range, 64 cycles add 1 to DIV, modulo 256, and bring the
divider's counter back to where it was, whatever TAC holds; k cycles add as many as the counter passes 64. -/
def Obligations.DividerRate : Prop :=
  ∀ (s : State) (k : Nat), s.timer.divCounter < 64 →
    (timerCycle^[k] s).timer.divCounter = (s.timer.divCounter + k) % 64 ∧
    (timerCycle^[k] s).timer.div = s.timer.div + BitVec.ofNat 8 ((s.timer.divCounter + k) / 64)

/-- TIMA (R582, R583, with the periods of 10_state.md R51): disabled, TIMA and its counter hold and nothing is
requested; enabled, TIMA holds until its counter reaches the period (at once, where it already stands there) and then
counts up, or reloads from TMA and requests the timer interrupt at 0xFF; a write to TAC changes TAC alone. -/
def Obligations.TimaCycle : Prop :=
  ∀ s : State,
    let period := ([256, 4, 16, 64] : List Nat).getD (s.timer.tac.toNat % 4) 0
    let wait := max 1 (period - s.timer.timaCounter)
    (s.timer.tac.getLsbD 2 = false → ∀ k,
      (timerCycle^[k] s).timer.tima = s.timer.tima ∧ (timerCycle^[k] s).timer.timaCounter = s.timer.timaCounter ∧
        (timerCycle^[k] s).ifReg = s.ifReg) ∧
    (s.timer.tac.getLsbD 2 = true →
      (∀ k < wait, (timerCycle^[k] s).timer.tima = s.timer.tima ∧ (timerCycle^[k] s).ifReg = s.ifReg) ∧
      let t := timerCycle^[wait] s
      t.timer.timaCounter = 0 ∧ t.timer.tima = (if s.timer.tima = 0xFF then s.timer.tma else s.timer.tima + 1) ∧
        t.ifReg = (if s.timer.tima = 0xFF then s.ifReg ||| 0x04 else s.ifReg)) ∧
    ∀ v : Byte, memWrite s 0xFF07 v = { s with timer := { s.timer with tac := v } }

/-- The joypad (R602, R603, R604): a press clears the button's bit and requests the joypad interrupt, a release sets it
and requests nothing, and each low bit of P1 is the AND of the selected latches. -/
def Obligations.JoypadActions : Prop :=
  ∀ (s : State) (btn : Button) (i : Nat),
    (hostAct (.press btn) s).ifReg = s.ifReg ||| 0x10 ∧
    (hostAct (.press btn) s).joypad = (if isDirection btn
      then { s.joypad with direction := s.joypad.direction &&& ~~~ buttonMask btn }
      else { s.joypad with action := s.joypad.action &&& ~~~ buttonMask btn }) ∧
    hostAct (.release btn) s = { s with joypad := if isDirection btn
      then { s.joypad with direction := s.joypad.direction ||| buttonMask btn }
      else { s.joypad with action := s.joypad.action ||| buttonMask btn } } ∧
    hostAct .releaseAll s = { s with joypad := { s.joypad with action := 0xF, direction := 0xF } } ∧
    (i < 4 → (memRead s 0xFF00).getLsbD i =
      ((s.joypad.p1.getLsbD 4 || s.joypad.direction.getLsbD i) &&
        (s.joypad.p1.getLsbD 5 || s.joypad.action.getLsbD i)))

/-! ### Reset and the invariant -/

/-- The reset values of the CPU and of the I/O registers in both boot modes (10_state.md R59, R60, R61). That an I/O byte
which POWER_ON_MEM's list does not reach is the parameter's default 0x00 is the model's choice (log 20). -/
def Obligations.ResetValues : Prop :=
  ∀ (p : Params) (s : State), create p = .ok s →
    s.ppu.stat = 0x06 ∧ s.ppu.ly = 0 ∧ s.timer.div = 0 ∧ s.timer.divCounter = 0 ∧ s.timer.timaCounter = 0 ∧
    s.joypad.action = 0xF ∧ s.joypad.direction = 0xF ∧
    s.cpu.ime = false ∧ s.cpu.eiPending = false ∧ s.cpu.halted = false ∧ s.cpu.locked = false ∧
    (p.bootMode = .skipBoot →
      s.cpu.a = 0x01 ∧ s.cpu.f = 0xB0 ∧ s.cpu.b = 0x00 ∧ s.cpu.c = 0x13 ∧ s.cpu.d = 0x00 ∧ s.cpu.e = 0xD8 ∧
      s.cpu.h = 0x01 ∧ s.cpu.l = 0x4D ∧ s.cpu.sp = 0xFFFE ∧ s.cpu.pc = 0x0100 ∧ s.bootMapped = false ∧
      s.ieReg = 0 ∧ ∀ i < 128, memRead s (BitVec.ofNat 16 (0xFF00 + i)) =
        if i = 0x00 then 0xCF else if i = 0x02 then 0x7E else if i = 0x07 then 0xF8 else if i = 0x0F then 0xE1
        else if i = 0x40 then 0x91 else if i = 0x41 then 0x86 else if i = 0x47 then 0xFC else 0x00) ∧
    (p.bootMode = .bootRom →
      s.cpu.a = p.powerOnRegs.a ∧ s.cpu.f = p.powerOnRegs.f &&& 0xF0 ∧ s.cpu.b = p.powerOnRegs.b ∧
      s.cpu.c = p.powerOnRegs.c ∧ s.cpu.d = p.powerOnRegs.d ∧ s.cpu.e = p.powerOnRegs.e ∧
      s.cpu.h = p.powerOnRegs.h ∧ s.cpu.l = p.powerOnRegs.l ∧ s.cpu.sp = p.powerOnRegs.sp ∧ s.cpu.pc = 0 ∧
      s.bootMapped = true ∧ s.ieReg = p.powerOnMem.ie ∧
      ∀ i < 128, memRead s (BitVec.ofNat 16 (0xFF00 + i)) =
        if i = 0x00 then 0xCF ||| (p.powerOnMem.io.getD 0 0 &&& 0x30) else if i = 0x04 then 0x00
        else if i = 0x41 then 0x86 else if i = 0x44 then 0x00 else p.powerOnMem.io.getD i 0)

/-- Creation (20_memory.md R130-R133, R144, R160): it fails exactly on a truncated header or a ROM-size code outside the
table; else the header bytes give the sizes, the controller and its registers. -/
def Obligations.CartridgeCreation : Prop :=
  ∀ p : Params,
    let type := (p.cartRom.getD 0x147 0).toNat
    let ramCode := (p.cartRom.getD 0x149 0).toNat
    let rtc : Rtc := { seconds := 0, minutes := 0, hours := 0, dayLow := 0, dayHigh := 0 }
    let controllerC : Bool → Mbc := fun hasRtc =>
      .c { ramEnable := false, bank := 1, sel := 0, latchLast := 0xFF, hasRtc := hasRtc, rtcLive := rtc, rtcLatched := rtc }
    ((∃ e, create p = .error e) ↔ p.cartRom.length < 0x150 ∨ 8 < (p.cartRom.getD 0x148 0).toNat) ∧
    ∀ s, create p = .ok s →
      s.cart.romSize = 0x8000 <<< (p.cartRom.getD 0x148 0).toNat ∧ s.cart.romLen = p.cartRom.length ∧
      s.cart.ramLen = (if type = 5 ∨ type = 6 then 512 else [0, 2048, 8192, 32768, 131072, 65536].getD ramCode 0) ∧
      s.cart.mbc =
        (if type = 0x00 ∨ type = 0x08 ∨ type = 0x09 then .none
        else if type = 0x01 ∨ type = 0x02 ∨ type = 0x03 then
          .a { ramEnable := false, bank1 := 1, bank2 := 0, mode := false }
        else if type = 0x05 ∨ type = 0x06 then .b { ramEnable := false, bank := 1 }
        else if type = 0x0F ∨ type = 0x10 then controllerC true
        else if type = 0x11 ∨ type = 0x12 ∨ type = 0x13 then controllerC false
        else .unknown)

/-- The model's own `State.reset` is the creation with the parameters that logs 1 to 4 choose, and it meets the
invariant. -/
def Obligations.InvReset : Prop := create resetParams = .ok State.reset ∧ MachineInv State.reset

/-- Every step keeps the invariant, from every state that meets it: F's low nibble is 0 (10_state.md R33), P1 stores its
select bits alone, every memory is canonical and inside its array, the controllers' banks are not 0, and the PPU and
timer counters keep the ranges of 10_state.md R52 and R55. -/
def Obligations.InvStep : Prop := ∀ s t : State, MachineInv s → step s = .next t → MachineInv t

/-- Every state that a run reaches, from any creation, by steps and host actions, meets the invariant. -/
def Obligations.InvReachable : Prop := ∀ s : State, Reachable s → MachineInv s
end

