-- ==== Sys2Proof/Laws/Memory.lean ====
section
/-! SUPPORT. What the operations of Machine/Memory.lean do: read after write, and the canonical form. -/

namespace Sys2Proof.Machine

theorem Memory.read_eq_blank (m : Memory) (k : Nat) (h : ∀ c ∈ m, c.1 ≠ k) : m.read k = blank := by
  induction m with
  | nil => rfl
  | cons c t ih =>
    obtain ⟨i, w⟩ := c
    have hi : i ≠ k := h (i, w) (by simp)
    simp only [Memory.read, hi, if_false]
    exact ih fun c hc => h c (by simp [hc])

/-- A read of another key is not changed by a write. -/
theorem Memory.read_write_other (m : Memory) (k j : Nat) (v : Byte) (h : j ≠ k) :
    (m.write k v).read j = m.read j := by
  have hk : ¬ k = j := fun e => h e.symm
  induction m with
  | nil => simp only [Memory.write]; split <;> simp [Memory.read, hk]
  | cons c t ih =>
    obtain ⟨i, w⟩ := c
    simp only [Memory.write]
    split_ifs with h1 h2 h3 h4
    · rfl
    · simp [Memory.read, hk]
    · simp [Memory.read, ← h3, hk]
    · simp [Memory.read, ← h3, hk]
    · simp only [Memory.read, ih]

/-- The keys after a write are the keys before it and the key written. -/
theorem Memory.write_keys (m : Memory) (k : Nat) (v : Byte) :
    ∀ c ∈ m.write k v, c ∈ m ∨ (c = (k, v) ∧ v ≠ blank) := by
  induction m with
  | nil => intro c hc; simp only [Memory.write] at hc; split at hc <;> simp_all
  | cons d t ih =>
    obtain ⟨i, w⟩ := d
    intro c hc
    simp only [Memory.write] at hc
    split_ifs at hc with h1 h2 h3 h4
    · exact .inl hc
    · rcases List.mem_cons.1 hc with rfl | hc
      · exact .inr ⟨rfl, h2⟩
      · exact .inl hc
    · exact .inl (List.mem_cons_of_mem _ hc)
    · rcases List.mem_cons.1 hc with rfl | hc
      · exact .inr ⟨rfl, h4⟩
      · exact .inl (List.mem_cons_of_mem _ hc)
    · rcases List.mem_cons.1 hc with rfl | hc
      · exact .inl (by simp)
      · rcases ih c hc with h | h
        · exact .inl (List.mem_cons_of_mem _ h)
        · exact .inr h

/-- A write keeps the canonical form. -/
theorem Memory.write_wf (m : Memory) (k : Nat) (v : Byte) (h : m.wf) : (m.write k v).wf := by
  refine ⟨?_, fun c hc => ?_⟩
  · obtain ⟨hp, -⟩ := h
    induction m with
    | nil => simp only [Memory.write]; split <;> simp
    | cons d t ih =>
      obtain ⟨i, w⟩ := d
      obtain ⟨hd, ht⟩ := List.pairwise_cons.1 hp
      simp only [Memory.write]
      split_ifs with h1 h2 h3 h4
      · exact hp
      · refine List.pairwise_cons.2 ⟨fun c hc => ?_, hp⟩
        rcases List.mem_cons.1 hc with rfl | hc
        · exact h1
        · exact Nat.lt_trans h1 (hd c hc)
      · exact ht
      · subst h3; exact List.pairwise_cons.2 ⟨hd, ht⟩
      · refine List.pairwise_cons.2 ⟨fun c hc => ?_, ih ht⟩
        rcases Memory.write_keys t k v c hc with h | ⟨rfl, -⟩
        · exact hd c h
        · show i < k; omega
  · rcases Memory.write_keys m k v c hc with hc | ⟨rfl, hv⟩
    · exact h.2 c hc
    · exact hv

/-- A write below the array's size stays inside it. -/
theorem Memory.write_within (m : Memory) (k n : Nat) (v : Byte) (h : m.within n) (hk : k < n) :
    (m.write k v).within n := fun c hc => by
  rcases Memory.write_keys m k v c hc with hc | ⟨rfl, -⟩
  · exact h c hc
  · exact hk

/-- A read after a write of the same key gives the byte written. -/
theorem Memory.read_write_same (m : Memory) (k : Nat) (v : Byte) (h : m.wf) : (m.write k v).read k = v := by
  obtain ⟨hp, -⟩ := h
  induction m with
  | nil => simp only [Memory.write]; split <;> simp_all [Memory.read]
  | cons d t ih =>
    obtain ⟨i, w⟩ := d
    obtain ⟨hd, ht⟩ := List.pairwise_cons.1 hp
    simp only [Memory.write]
    split_ifs with h1 h2 h3 h4
    · subst h2
      refine Memory.read_eq_blank _ _ fun c hc => ?_
      rcases List.mem_cons.1 hc with rfl | hc
      · show i ≠ k; omega
      · have := hd c hc; simp only at this; omega
    · simp [Memory.read]
    · subst h3 h4
      exact Memory.read_eq_blank _ _ fun c hc => Nat.ne_of_gt (hd c hc)
    · simp [Memory.read]
    · simp only [Memory.read, show ¬ i = k by omega, if_false]
      exact ih ht

theorem Memory.ofBytes_keys (l : List Byte) (k : Nat) :
    ∀ c ∈ Memory.ofBytes k l, k ≤ c.1 ∧ c.1 < k + l.length ∧ c.2 ≠ blank := by
  induction l generalizing k with
  | nil => simp [Memory.ofBytes]
  | cons v t ih =>
    intro c hc
    simp only [Memory.ofBytes] at hc
    have step : c ∈ Memory.ofBytes (k + 1) t → k ≤ c.1 ∧ c.1 < k + (v :: t).length ∧ c.2 ≠ blank := fun h => by
      have := ih (k + 1) c h
      simp only [List.length_cons]
      exact ⟨by omega, by omega, this.2.2⟩
    split_ifs at hc with hv
    · exact step hc
    · rcases List.mem_cons.1 hc with rfl | hc
      · exact ⟨Nat.le_refl _, by simp, hv⟩
      · exact step hc

/-- The memory of a list is canonical. -/
theorem Memory.ofBytes_wf (l : List Byte) (k : Nat) : (Memory.ofBytes k l).wf := by
  refine ⟨?_, fun c hc => (Memory.ofBytes_keys l k c hc).2.2⟩
  induction l generalizing k with
  | nil => simp [Memory.ofBytes]
  | cons v t ih =>
    simp only [Memory.ofBytes]
    split_ifs
    · exact ih (k + 1)
    · exact List.pairwise_cons.2 ⟨fun c hc => (Memory.ofBytes_keys t (k + 1) c hc).1, ih (k + 1)⟩

/-- The memory of a list lists keys of the list only. -/
theorem Memory.ofBytes_within (l : List Byte) (n : Nat) (h : l.length ≤ n) : (Memory.ofBytes 0 l).within n :=
  fun c hc => by have := Memory.ofBytes_keys l 0 c hc; omega

/-- What the memory of a list reads at a key of the list. -/
theorem Memory.read_ofBytes (l : List Byte) (k j : Nat) : (Memory.ofBytes k l).read (k + j) = l.getD j blank := by
  induction l generalizing k j with
  | nil => rfl
  | cons v t ih =>
    cases j with
    | zero =>
      simp only [Memory.ofBytes, Nat.add_zero, List.getD_cons_zero]
      split_ifs with hv
      · rw [hv]
        exact Memory.read_eq_blank _ _ fun c hc => by have := Memory.ofBytes_keys t (k + 1) c hc; omega
      · simp [Memory.read]
    | succ j =>
      have e := ih (k + 1) j
      rw [show k + 1 + j = k + (j + 1) by omega] at e
      simp only [Memory.ofBytes, List.getD_cons_succ]
      split_ifs
      · exact e
      · simp only [Memory.read, show ¬ k = k + (j + 1) by omega, if_false]; exact e

end Sys2Proof.Machine
end

