-- ==== Sys2Proof/Laws/Cart.lean ====
section
/-! SUPPORT. What the cartridge operations of Machine/Cart.lean do: the parts a write leaves alone, the bank masks, and
the cartridge's invariant. -/

namespace Sys2Proof.Machine

open Sys2Proof.Safety

@[simp] theorem ramSet_mbc (c : Cart) (off : Nat) (v : Byte) : (ramSet c off v).mbc = c.mbc := by
  unfold ramSet; split <;> rfl

@[simp] theorem ramSet_rom (c : Cart) (off : Nat) (v : Byte) : (ramSet c off v).rom = c.rom := by
  unfold ramSet; split <;> rfl

@[simp] theorem ramSet_romLen (c : Cart) (off : Nat) (v : Byte) : (ramSet c off v).romLen = c.romLen := by
  unfold ramSet; split <;> rfl

@[simp] theorem ramSet_romSize (c : Cart) (off : Nat) (v : Byte) : (ramSet c off v).romSize = c.romSize := by
  unfold ramSet; split <;> rfl

@[simp] theorem ramSet_ramLen (c : Cart) (off : Nat) (v : Byte) : (ramSet c off v).ramLen = c.ramLen := by
  unfold ramSet; split <;> rfl

/-- What a RAM write does to a RAM read of another offset: nothing. -/
theorem ramGet_ramSet_other (c : Cart) (k j : Nat) (v : Byte) (h : j ≠ k) : ramGet (ramSet c k v) j = ramGet c j := by
  unfold ramGet ramSet
  split <;> simp [Memory.read_write_other _ k j v h]

/-- A RAM write inside the RAM is read back. -/
theorem ramGet_ramSet_same (c : Cart) (k : Nat) (v : Byte) (hw : c.ram.wf) (hk : k < c.ramLen) :
    ramGet (ramSet c k v) k = v := by
  simp [ramGet, ramSet, hk, Memory.read_write_same _ k v hw]

/-- Everything a cartridge write can do: store one RAM byte, or write a register of the controller the cartridge has. -/
theorem cartWrite_cases (c : Cart) (n : Nat) (v : Byte) :
    (∃ off w, cartWrite c n v = ramSet c off w) ∨
    (∃ m off, c.mbc = .b m ∧ off < 512 ∧ cartWrite c n v = { c with ram := c.ram.write off (v &&& 0x0F) }) ∨
    cartWrite c n v = c ∨
    (∃ m, c.mbc = .a m ∧ cartWrite c n v = { c with mbc := .a (mbcAWriteReg m n v) }) ∨
    (∃ m, c.mbc = .b m ∧ cartWrite c n v = { c with mbc := .b (mbcBWriteReg m n v) }) ∨
    (∃ m, c.mbc = .c m ∧ cartWrite c n v = { c with mbc := .c (mbcCWriteReg m n v) }) ∨
    (∃ m r, c.mbc = .c m ∧ cartWrite c n v = { c with mbc := .c { m with rtcLive := r } }) := by
  unfold cartWrite
  split
  · split_ifs
    · exact .inr (.inr (.inl rfl))
    · exact .inl ⟨_, _, rfl⟩
  · rename_i m h
    split_ifs
    · exact .inr (.inr (.inr (.inl ⟨m, h, rfl⟩)))
    · exact .inl ⟨_, _, rfl⟩
    · exact .inr (.inr (.inl rfl))
  · rename_i m h
    split_ifs
    · exact .inr (.inr (.inr (.inr (.inl ⟨m, h, rfl⟩))))
    · exact .inr (.inl ⟨m, _, h, Nat.mod_lt _ (by decide), rfl⟩)
    · exact .inr (.inr (.inl rfl))
  · rename_i m h
    split_ifs
    · exact .inr (.inr (.inr (.inr (.inr (.inl ⟨m, h, rfl⟩)))))
    · exact .inr (.inr (.inl rfl))
    · exact .inl ⟨_, _, rfl⟩
    · exact .inr (.inr (.inr (.inr (.inr (.inr ⟨m, _, h, rfl⟩)))))
    · exact .inr (.inr (.inl rfl))
  · exact .inr (.inr (.inl rfl))

/-- No write changes the ROM, its length, its size or the RAM's size. -/
theorem cartWrite_rom (c : Cart) (n : Nat) (v : Byte) :
    (cartWrite c n v).rom = c.rom ∧ (cartWrite c n v).romLen = c.romLen ∧
      (cartWrite c n v).romSize = c.romSize ∧ (cartWrite c n v).ramLen = c.ramLen := by
  rcases cartWrite_cases c n v with ⟨_, _, h⟩ | ⟨_, _, _, _, h⟩ | h | ⟨_, _, h⟩ | ⟨_, _, h⟩ | ⟨_, _, h⟩ | ⟨_, _, _, h⟩ <;>
    simp [h]

/-- No write changes which controller the cartridge has. -/
theorem mirrorsRam_cartWrite (c : Cart) (n : Nat) (v : Byte) :
    mirrorsRam (cartWrite c n v).mbc = mirrorsRam c.mbc := by
  rcases cartWrite_cases c n v with ⟨_, _, h⟩ | ⟨_, _, _, _, h⟩ | h | ⟨_, e, h⟩ | ⟨_, e, h⟩ | ⟨_, e, h⟩ | ⟨_, _, e, h⟩ <;>
    simp [mirrorsRam, *]

theorem mbcAWriteReg_bank1 (m : MbcA) (n : Nat) (v : Byte) (h : m.bank1 ≠ 0) : (mbcAWriteReg m n v).bank1 ≠ 0 := by
  simp only [mbcAWriteReg]
  split_ifs <;> simp_all

theorem mbcBWriteReg_bank (m : MbcB) (n : Nat) (v : Byte) (h : m.bank ≠ 0) : (mbcBWriteReg m n v).bank ≠ 0 := by
  simp only [mbcBWriteReg]
  split_ifs <;> simp_all

theorem mbcCWriteReg_bank (m : MbcC) (n : Nat) (v : Byte) (h : m.bank ≠ 0) : (mbcCWriteReg m n v).bank ≠ 0 := by
  simp only [mbcCWriteReg, mbcCLatch]
  split_ifs <;> simp_all

theorem ramSet_inv (c : Cart) (off : Nat) (v : Byte) (h : CartInv c) : CartInv (ramSet c off v) := by
  refine ⟨by simpa using h.rom, by simpa using h.romRange, ?_, ?_, by simpa [MbcInv] using h.mbc⟩
  · unfold ramSet; split
    · exact Memory.write_wf _ _ _ h.ram
    · exact h.ram
  · unfold ramSet; split
    · exact Memory.write_within _ _ _ _ h.ramRange ‹_›
    · exact h.ramRange

/-- A cartridge write keeps the cartridge's invariant. -/
theorem cartWrite_inv (c : Cart) (n : Nat) (v : Byte) (h : CartInv c) : CartInv (cartWrite c n v) := by
  have hm := h.mbc
  unfold MbcInv at hm
  rcases cartWrite_cases c n v with ⟨_, _, e⟩ | ⟨m, _, hb, hk, e⟩ | e | ⟨m, hb, e⟩ | ⟨m, hb, e⟩ | ⟨m, hb, e⟩ | ⟨m, _, hb, e⟩ <;>
    rw [e]
  · exact ramSet_inv _ _ _ h
  · rw [hb] at hm
    refine ⟨h.rom, h.romRange, Memory.write_wf _ _ _ h.ram, ?_, by simpa [MbcInv, hb] using hm⟩
    exact Memory.write_within _ _ _ _ h.ramRange (by rw [hm.2]; exact hk)
  · exact h
  · rw [hb] at hm; exact ⟨h.rom, h.romRange, h.ram, h.ramRange, mbcAWriteReg_bank1 m n v hm⟩
  · rw [hb] at hm; exact ⟨h.rom, h.romRange, h.ram, h.ramRange, mbcBWriteReg_bank m n v hm.1, hm.2⟩
  · rw [hb] at hm; exact ⟨h.rom, h.romRange, h.ram, h.ramRange, mbcCWriteReg_bank m n v hm⟩
  · rw [hb] at hm; exact ⟨h.rom, h.romRange, h.ram, h.ramRange, hm⟩

/-! ### The RAM window, one lemma per variant each way (R138, R143, R147, R152, R153, R155) -/

theorem cartRead_none (c : Cart) (j : Nat) (hc : c.mbc = .none) (hj : ¬ j < 0x8000) :
    cartRead c j = ramGet c (j - 0xA000) := by
  unfold cartRead; rw [hc]; exact if_neg hj

theorem cartWrite_none (c : Cart) (j : Nat) (v : Byte) (hc : c.mbc = .none) (hj : ¬ j < 0x8000) :
    cartWrite c j v = ramSet c (j - 0xA000) v := by
  unfold cartWrite; rw [hc]; exact if_neg hj

theorem cartRead_a (c : Cart) (j : Nat) (m : MbcA) (hc : c.mbc = .a m) (hj : ¬ j < 0x8000) :
    cartRead c j = if m.ramEnable then ramGet c (mbcARamOffset c m j) else 0xFF := by
  unfold cartRead; rw [hc]; exact if_neg hj

theorem cartWrite_a (c : Cart) (j : Nat) (v : Byte) (m : MbcA) (hc : c.mbc = .a m) (hj : ¬ j < 0x8000) :
    cartWrite c j v = if m.ramEnable then ramSet c (mbcARamOffset c m j) v else c := by
  unfold cartWrite; rw [hc]; exact if_neg hj

theorem cartRead_b (c : Cart) (j : Nat) (m : MbcB) (hc : c.mbc = .b m) (hj : ¬ j < 0x8000) :
    cartRead c j = if m.ramEnable then 0xF0 ||| (c.ram.read (mbcBRamOffset j) &&& 0x0F) else 0xFF := by
  unfold cartRead; rw [hc]; exact if_neg hj

theorem cartWrite_b (c : Cart) (j : Nat) (v : Byte) (m : MbcB) (hc : c.mbc = .b m) (hj : ¬ j < 0x8000) :
    cartWrite c j v =
      if m.ramEnable then { c with ram := c.ram.write (mbcBRamOffset j) (v &&& 0x0F) } else c := by
  unfold cartWrite; rw [hc]; exact if_neg hj

theorem cartRead_c (c : Cart) (j : Nat) (m : MbcC) (hc : c.mbc = .c m) (hj : ¬ j < 0x8000) :
    cartRead c j =
      if m.ramEnable = false then 0xFF
      else if m.sel.toNat ≤ 0x03 then ramGet c (mbcCRamOffset c m j)
      else if 0x08 ≤ m.sel.toNat ∧ m.sel.toNat ≤ 0x0C ∧ m.hasRtc then rtcGet m.rtcLatched m.sel.toNat
      else 0xFF := by
  unfold cartRead; rw [hc]; exact if_neg hj

theorem cartWrite_c (c : Cart) (j : Nat) (v : Byte) (m : MbcC) (hc : c.mbc = .c m) (hj : ¬ j < 0x8000) :
    cartWrite c j v =
      if m.ramEnable = false then c
      else if m.sel.toNat ≤ 0x03 then ramSet c (mbcCRamOffset c m j) v
      else if 0x08 ≤ m.sel.toNat ∧ m.sel.toNat ≤ 0x0C ∧ m.hasRtc then
        { c with mbc := .c { m with rtcLive := rtcSet m.rtcLive m.sel.toNat v } }
      else c := by
  unfold cartWrite; rw [hc]; exact if_neg hj

theorem cartRead_unknown (c : Cart) (j : Nat) (hc : c.mbc = .unknown) : cartRead c j = 0xFF := by
  unfold cartRead; rw [hc]

theorem cartWrite_unknown (c : Cart) (j : Nat) (v : Byte) (hc : c.mbc = .unknown) : cartWrite c j v = c := by
  unfold cartWrite; rw [hc]

theorem mbcARamOffset_ramSet (c : Cart) (k j : Nat) (v : Byte) (m : MbcA) :
    mbcARamOffset (ramSet c k v) m j = mbcARamOffset c m j := by
  unfold mbcARamOffset ramMask; rw [ramSet_ramLen]

theorem mbcCRamOffset_ramSet (c : Cart) (k j : Nat) (v : Byte) (m : MbcC) :
    mbcCRamOffset (ramSet c k v) m j = mbcCRamOffset c m j := by
  unfold mbcCRamOffset ramMask; rw [ramSet_ramLen]

theorem windowOffset_ne (x n j : Nat) (hn : 0xA000 ≤ n) (hj : 0xA000 ≤ j) (h : j ≠ n) :
    x + (j - 0xA000) ≠ x + (n - 0xA000) := by
  intro e; omega

/-- The window shows each RAM offset at one address: Controller A. -/
theorem mbcARamOffset_ne (c : Cart) (m : MbcA) (n j : Nat) (hn : 0xA000 ≤ n) (hj : 0xA000 ≤ j) (h : j ≠ n) :
    mbcARamOffset c m j ≠ mbcARamOffset c m n := by
  unfold mbcARamOffset; generalize (_ * 0x2000 : Nat) = x; exact windowOffset_ne x n j hn hj h

/-- The window shows each RAM offset at one address: Controller C. -/
theorem mbcCRamOffset_ne (c : Cart) (m : MbcC) (n j : Nat) (hn : 0xA000 ≤ n) (hj : 0xA000 ≤ j) (h : j ≠ n) :
    mbcCRamOffset c m j ≠ mbcCRamOffset c m n := by
  unfold mbcCRamOffset; generalize (_ * 0x2000 : Nat) = x; exact windowOffset_ne x n j hn hj h

/-- The window repeats every 512 bytes: Controller B (R147). -/
theorem mbcBRamOffset_ne (n j : Nat) (hn : 0xA000 ≤ n) (hj : 0xA000 ≤ j) (h : j % 512 ≠ n % 512) :
    mbcBRamOffset j ≠ mbcBRamOffset n := by
  unfold mbcBRamOffset; omega

/-- A write to the RAM window changes no ROM byte and no bank register. -/
theorem cartRead_write_rom (c : Cart) (n j : Nat) (v : Byte) (hn : ¬ n < 0x8000) (hj : j < 0x8000) :
    cartRead (cartWrite c n v) j = cartRead c j := by
  have hr : ∀ k w, cartRead (ramSet c k w) j = cartRead c j := fun k w => by
    unfold cartRead ramSet; split_ifs
    · cases hm : c.mbc <;> rfl
    · rfl
  unfold cartWrite
  cases hm : c.mbc <;> simp only [hn, if_false] <;> (try split_ifs) <;> first | rfl | exact hr _ _ | skip
  · unfold cartRead; simp only [hm, hj, if_true]; rfl
  · unfold cartRead; simp only [hm, hj, if_true]; rfl

/-- A write to the RAM window changes no other byte of it, but for Controller B's mirrors. -/
theorem cartRead_write_other (c : Cart) (n j : Nat) (v : Byte) (hn : 0xA000 ≤ n) (hj : 0xA000 ≤ j) (hne : j ≠ n)
    (hm : mirrorsRam c.mbc = true → j % 512 ≠ n % 512) : cartRead (cartWrite c n v) j = cartRead c j := by
  have n1 : ¬ n < 0x8000 := by omega
  have j1 : ¬ j < 0x8000 := by omega
  have rs : ∀ k w x, c.mbc = x → (ramSet c k w).mbc = x := fun k w x e => by rw [ramSet_mbc, e]
  obtain ⟨x, hc⟩ : ∃ x, c.mbc = x := ⟨_, rfl⟩
  cases x with
  | none =>
    rw [cartWrite_none _ _ _ hc n1, cartRead_none _ _ (rs _ _ _ hc) j1, cartRead_none _ _ hc j1]
    exact ramGet_ramSet_other c (n - 0xA000) (j - 0xA000) v (by simpa using windowOffset_ne 0 n j hn hj hne)
  | a m =>
    rw [cartWrite_a _ _ _ _ hc n1, cartRead_a c _ _ hc j1]
    split
    · rw [cartRead_a _ _ _ (rs _ _ _ hc) j1, if_pos ‹_›, mbcARamOffset_ramSet]
      exact ramGet_ramSet_other _ _ _ _ (mbcARamOffset_ne _ _ _ _ hn hj hne)
    · rw [cartRead_a c _ _ hc j1, if_neg ‹_›]
  | b m =>
    rw [cartWrite_b _ _ _ _ hc n1, cartRead_b c _ _ hc j1]
    split
    · rw [cartRead_b { c with ram := c.ram.write (mbcBRamOffset n) (v &&& 0x0F) } j m hc j1, if_pos ‹_›]
      dsimp only
      rw [Memory.read_write_other _ _ _ _ (mbcBRamOffset_ne _ _ hn hj (hm (by rw [hc]; rfl)))]
    · rw [cartRead_b c _ _ hc j1, if_neg ‹_›]
  | c m =>
    rw [cartWrite_c _ _ _ _ hc n1]
    split
    · rfl
    · split
      · rw [cartRead_c _ _ _ (rs _ _ _ hc) j1, cartRead_c c _ _ hc j1, if_neg ‹_›, if_pos ‹_›, if_neg ‹_›, if_pos ‹_›,
          mbcCRamOffset_ramSet]
        exact ramGet_ramSet_other _ _ _ _ (mbcCRamOffset_ne _ _ _ _ hn hj hne)
      · split
        · rename_i e1 e2 e3
          rw [cartRead_c _ _ _ rfl j1, cartRead_c c _ _ hc j1]
          exact ((if_neg e1).trans ((if_neg e2).trans (if_pos e3))).trans
            ((if_neg e1).trans ((if_neg e2).trans (if_pos e3))).symm
        · rfl
  | unknown => rw [cartWrite_unknown _ _ _ hc]

end Sys2Proof.Machine
end

