-- ==== Sys2Proof/Laws/State.lean ====
section
/-! SUPPORT. One lemma per field per update of `State` and `Cpu` (Machine/Ops.lean), true by `rfl`, and the few facts
about register pairs that are not. -/

namespace Sys2Proof.Machine

/-! ### setCpu -/

@[simp] theorem State.setCpu_cpu (s : State) (k : Cpu) : (s.setCpu k).cpu = k := rfl
@[simp] theorem State.setCpu_ieReg (s : State) (k : Cpu) : (s.setCpu k).ieReg = s.ieReg := rfl
@[simp] theorem State.setCpu_ifReg (s : State) (k : Cpu) : (s.setCpu k).ifReg = s.ifReg := rfl
@[simp] theorem State.setCpu_bootMapped (s : State) (k : Cpu) : (s.setCpu k).bootMapped = s.bootMapped := rfl
@[simp] theorem State.setCpu_bootRom (s : State) (k : Cpu) : (s.setCpu k).bootRom = s.bootRom := rfl
@[simp] theorem State.setCpu_vram (s : State) (k : Cpu) : (s.setCpu k).vram = s.vram := rfl
@[simp] theorem State.setCpu_wram (s : State) (k : Cpu) : (s.setCpu k).wram = s.wram := rfl
@[simp] theorem State.setCpu_oam (s : State) (k : Cpu) : (s.setCpu k).oam = s.oam := rfl
@[simp] theorem State.setCpu_io (s : State) (k : Cpu) : (s.setCpu k).io = s.io := rfl
@[simp] theorem State.setCpu_hram (s : State) (k : Cpu) : (s.setCpu k).hram = s.hram := rfl
@[simp] theorem State.setCpu_sb (s : State) (k : Cpu) : (s.setCpu k).sb = s.sb := rfl
@[simp] theorem State.setCpu_sc (s : State) (k : Cpu) : (s.setCpu k).sc = s.sc := rfl
@[simp] theorem State.setCpu_dma (s : State) (k : Cpu) : (s.setCpu k).dma = s.dma := rfl
@[simp] theorem State.setCpu_bootOff (s : State) (k : Cpu) : (s.setCpu k).bootOff = s.bootOff := rfl
@[simp] theorem State.setCpu_cart (s : State) (k : Cpu) : (s.setCpu k).cart = s.cart := rfl
@[simp] theorem State.setCpu_ppu (s : State) (k : Cpu) : (s.setCpu k).ppu = s.ppu := rfl
@[simp] theorem State.setCpu_timer (s : State) (k : Cpu) : (s.setCpu k).timer = s.timer := rfl
@[simp] theorem State.setCpu_joypad (s : State) (k : Cpu) : (s.setCpu k).joypad = s.joypad := rfl
@[simp] theorem State.setCpu_stopMode (s : State) (k : Cpu) : (s.setCpu k).stopMode = s.stopMode := rfl
@[simp] theorem State.setCpu_cycles (s : State) (k : Cpu) : (s.setCpu k).cycles = s.cycles := rfl

/-! ### setPc -/

@[simp] theorem State.setPc_cpu (s : State) (v : Word) : (s.setPc v).cpu = { s.cpu with pc := v } := rfl
@[simp] theorem State.setPc_ieReg (s : State) (v : Word) : (s.setPc v).ieReg = s.ieReg := rfl
@[simp] theorem State.setPc_ifReg (s : State) (v : Word) : (s.setPc v).ifReg = s.ifReg := rfl
@[simp] theorem State.setPc_bootMapped (s : State) (v : Word) : (s.setPc v).bootMapped = s.bootMapped := rfl
@[simp] theorem State.setPc_bootRom (s : State) (v : Word) : (s.setPc v).bootRom = s.bootRom := rfl
@[simp] theorem State.setPc_vram (s : State) (v : Word) : (s.setPc v).vram = s.vram := rfl
@[simp] theorem State.setPc_wram (s : State) (v : Word) : (s.setPc v).wram = s.wram := rfl
@[simp] theorem State.setPc_oam (s : State) (v : Word) : (s.setPc v).oam = s.oam := rfl
@[simp] theorem State.setPc_io (s : State) (v : Word) : (s.setPc v).io = s.io := rfl
@[simp] theorem State.setPc_hram (s : State) (v : Word) : (s.setPc v).hram = s.hram := rfl
@[simp] theorem State.setPc_sb (s : State) (v : Word) : (s.setPc v).sb = s.sb := rfl
@[simp] theorem State.setPc_sc (s : State) (v : Word) : (s.setPc v).sc = s.sc := rfl
@[simp] theorem State.setPc_dma (s : State) (v : Word) : (s.setPc v).dma = s.dma := rfl
@[simp] theorem State.setPc_bootOff (s : State) (v : Word) : (s.setPc v).bootOff = s.bootOff := rfl
@[simp] theorem State.setPc_cart (s : State) (v : Word) : (s.setPc v).cart = s.cart := rfl
@[simp] theorem State.setPc_ppu (s : State) (v : Word) : (s.setPc v).ppu = s.ppu := rfl
@[simp] theorem State.setPc_timer (s : State) (v : Word) : (s.setPc v).timer = s.timer := rfl
@[simp] theorem State.setPc_joypad (s : State) (v : Word) : (s.setPc v).joypad = s.joypad := rfl
@[simp] theorem State.setPc_stopMode (s : State) (v : Word) : (s.setPc v).stopMode = s.stopMode := rfl
@[simp] theorem State.setPc_cycles (s : State) (v : Word) : (s.setPc v).cycles = s.cycles := rfl

/-! ### setSp -/

@[simp] theorem State.setSp_cpu (s : State) (v : Word) : (s.setSp v).cpu = { s.cpu with sp := v } := rfl
@[simp] theorem State.setSp_ieReg (s : State) (v : Word) : (s.setSp v).ieReg = s.ieReg := rfl
@[simp] theorem State.setSp_ifReg (s : State) (v : Word) : (s.setSp v).ifReg = s.ifReg := rfl
@[simp] theorem State.setSp_bootMapped (s : State) (v : Word) : (s.setSp v).bootMapped = s.bootMapped := rfl
@[simp] theorem State.setSp_bootRom (s : State) (v : Word) : (s.setSp v).bootRom = s.bootRom := rfl
@[simp] theorem State.setSp_vram (s : State) (v : Word) : (s.setSp v).vram = s.vram := rfl
@[simp] theorem State.setSp_wram (s : State) (v : Word) : (s.setSp v).wram = s.wram := rfl
@[simp] theorem State.setSp_oam (s : State) (v : Word) : (s.setSp v).oam = s.oam := rfl
@[simp] theorem State.setSp_io (s : State) (v : Word) : (s.setSp v).io = s.io := rfl
@[simp] theorem State.setSp_hram (s : State) (v : Word) : (s.setSp v).hram = s.hram := rfl
@[simp] theorem State.setSp_sb (s : State) (v : Word) : (s.setSp v).sb = s.sb := rfl
@[simp] theorem State.setSp_sc (s : State) (v : Word) : (s.setSp v).sc = s.sc := rfl
@[simp] theorem State.setSp_dma (s : State) (v : Word) : (s.setSp v).dma = s.dma := rfl
@[simp] theorem State.setSp_bootOff (s : State) (v : Word) : (s.setSp v).bootOff = s.bootOff := rfl
@[simp] theorem State.setSp_cart (s : State) (v : Word) : (s.setSp v).cart = s.cart := rfl
@[simp] theorem State.setSp_ppu (s : State) (v : Word) : (s.setSp v).ppu = s.ppu := rfl
@[simp] theorem State.setSp_timer (s : State) (v : Word) : (s.setSp v).timer = s.timer := rfl
@[simp] theorem State.setSp_joypad (s : State) (v : Word) : (s.setSp v).joypad = s.joypad := rfl
@[simp] theorem State.setSp_stopMode (s : State) (v : Word) : (s.setSp v).stopMode = s.stopMode := rfl
@[simp] theorem State.setSp_cycles (s : State) (v : Word) : (s.setSp v).cycles = s.cycles := rfl

/-! ### request -/

@[simp] theorem request_cpu (s : State) (k : Nat) : (request s k).cpu = s.cpu := rfl
@[simp] theorem request_ieReg (s : State) (k : Nat) : (request s k).ieReg = s.ieReg := rfl
@[simp] theorem request_ifReg (s : State) (k : Nat) : (request s k).ifReg = s.ifReg ||| ((1 : Byte) <<< k) := rfl
@[simp] theorem request_bootMapped (s : State) (k : Nat) : (request s k).bootMapped = s.bootMapped := rfl
@[simp] theorem request_bootRom (s : State) (k : Nat) : (request s k).bootRom = s.bootRom := rfl
@[simp] theorem request_vram (s : State) (k : Nat) : (request s k).vram = s.vram := rfl
@[simp] theorem request_wram (s : State) (k : Nat) : (request s k).wram = s.wram := rfl
@[simp] theorem request_oam (s : State) (k : Nat) : (request s k).oam = s.oam := rfl
@[simp] theorem request_io (s : State) (k : Nat) : (request s k).io = s.io := rfl
@[simp] theorem request_hram (s : State) (k : Nat) : (request s k).hram = s.hram := rfl
@[simp] theorem request_sb (s : State) (k : Nat) : (request s k).sb = s.sb := rfl
@[simp] theorem request_sc (s : State) (k : Nat) : (request s k).sc = s.sc := rfl
@[simp] theorem request_dma (s : State) (k : Nat) : (request s k).dma = s.dma := rfl
@[simp] theorem request_bootOff (s : State) (k : Nat) : (request s k).bootOff = s.bootOff := rfl
@[simp] theorem request_cart (s : State) (k : Nat) : (request s k).cart = s.cart := rfl
@[simp] theorem request_ppu (s : State) (k : Nat) : (request s k).ppu = s.ppu := rfl
@[simp] theorem request_timer (s : State) (k : Nat) : (request s k).timer = s.timer := rfl
@[simp] theorem request_joypad (s : State) (k : Nat) : (request s k).joypad = s.joypad := rfl
@[simp] theorem request_stopMode (s : State) (k : Nat) : (request s k).stopMode = s.stopMode := rfl
@[simp] theorem request_cycles (s : State) (k : Nat) : (request s k).cycles = s.cycles := rfl

/-! ### lockCpu -/

@[simp] theorem lockCpu_cpu (s : State)  : (lockCpu s).cpu = { s.cpu with locked := true } := rfl
@[simp] theorem lockCpu_ieReg (s : State)  : (lockCpu s).ieReg = s.ieReg := rfl
@[simp] theorem lockCpu_ifReg (s : State)  : (lockCpu s).ifReg = s.ifReg := rfl
@[simp] theorem lockCpu_bootMapped (s : State)  : (lockCpu s).bootMapped = s.bootMapped := rfl
@[simp] theorem lockCpu_bootRom (s : State)  : (lockCpu s).bootRom = s.bootRom := rfl
@[simp] theorem lockCpu_vram (s : State)  : (lockCpu s).vram = s.vram := rfl
@[simp] theorem lockCpu_wram (s : State)  : (lockCpu s).wram = s.wram := rfl
@[simp] theorem lockCpu_oam (s : State)  : (lockCpu s).oam = s.oam := rfl
@[simp] theorem lockCpu_io (s : State)  : (lockCpu s).io = s.io := rfl
@[simp] theorem lockCpu_hram (s : State)  : (lockCpu s).hram = s.hram := rfl
@[simp] theorem lockCpu_sb (s : State)  : (lockCpu s).sb = s.sb := rfl
@[simp] theorem lockCpu_sc (s : State)  : (lockCpu s).sc = s.sc := rfl
@[simp] theorem lockCpu_dma (s : State)  : (lockCpu s).dma = s.dma := rfl
@[simp] theorem lockCpu_bootOff (s : State)  : (lockCpu s).bootOff = s.bootOff := rfl
@[simp] theorem lockCpu_cart (s : State)  : (lockCpu s).cart = s.cart := rfl
@[simp] theorem lockCpu_ppu (s : State)  : (lockCpu s).ppu = s.ppu := rfl
@[simp] theorem lockCpu_timer (s : State)  : (lockCpu s).timer = s.timer := rfl
@[simp] theorem lockCpu_joypad (s : State)  : (lockCpu s).joypad = s.joypad := rfl
@[simp] theorem lockCpu_stopMode (s : State)  : (lockCpu s).stopMode = s.stopMode := rfl
@[simp] theorem lockCpu_cycles (s : State)  : (lockCpu s).cycles = s.cycles := rfl

/-! ### Cpu.setBc -/

@[simp] theorem Cpu.setBc_a (k : Cpu) (v : Word) : (k.setBc v).a = k.a := rfl
@[simp] theorem Cpu.setBc_f (k : Cpu) (v : Word) : (k.setBc v).f = k.f := rfl
@[simp] theorem Cpu.setBc_b (k : Cpu) (v : Word) : (k.setBc v).b = hiByte v := rfl
@[simp] theorem Cpu.setBc_c (k : Cpu) (v : Word) : (k.setBc v).c = loByte v := rfl
@[simp] theorem Cpu.setBc_d (k : Cpu) (v : Word) : (k.setBc v).d = k.d := rfl
@[simp] theorem Cpu.setBc_e (k : Cpu) (v : Word) : (k.setBc v).e = k.e := rfl
@[simp] theorem Cpu.setBc_h (k : Cpu) (v : Word) : (k.setBc v).h = k.h := rfl
@[simp] theorem Cpu.setBc_l (k : Cpu) (v : Word) : (k.setBc v).l = k.l := rfl
@[simp] theorem Cpu.setBc_sp (k : Cpu) (v : Word) : (k.setBc v).sp = k.sp := rfl
@[simp] theorem Cpu.setBc_pc (k : Cpu) (v : Word) : (k.setBc v).pc = k.pc := rfl
@[simp] theorem Cpu.setBc_ime (k : Cpu) (v : Word) : (k.setBc v).ime = k.ime := rfl
@[simp] theorem Cpu.setBc_eiPending (k : Cpu) (v : Word) : (k.setBc v).eiPending = k.eiPending := rfl
@[simp] theorem Cpu.setBc_halted (k : Cpu) (v : Word) : (k.setBc v).halted = k.halted := rfl
@[simp] theorem Cpu.setBc_locked (k : Cpu) (v : Word) : (k.setBc v).locked = k.locked := rfl

/-! ### Cpu.setDe -/

@[simp] theorem Cpu.setDe_a (k : Cpu) (v : Word) : (k.setDe v).a = k.a := rfl
@[simp] theorem Cpu.setDe_f (k : Cpu) (v : Word) : (k.setDe v).f = k.f := rfl
@[simp] theorem Cpu.setDe_b (k : Cpu) (v : Word) : (k.setDe v).b = k.b := rfl
@[simp] theorem Cpu.setDe_c (k : Cpu) (v : Word) : (k.setDe v).c = k.c := rfl
@[simp] theorem Cpu.setDe_d (k : Cpu) (v : Word) : (k.setDe v).d = hiByte v := rfl
@[simp] theorem Cpu.setDe_e (k : Cpu) (v : Word) : (k.setDe v).e = loByte v := rfl
@[simp] theorem Cpu.setDe_h (k : Cpu) (v : Word) : (k.setDe v).h = k.h := rfl
@[simp] theorem Cpu.setDe_l (k : Cpu) (v : Word) : (k.setDe v).l = k.l := rfl
@[simp] theorem Cpu.setDe_sp (k : Cpu) (v : Word) : (k.setDe v).sp = k.sp := rfl
@[simp] theorem Cpu.setDe_pc (k : Cpu) (v : Word) : (k.setDe v).pc = k.pc := rfl
@[simp] theorem Cpu.setDe_ime (k : Cpu) (v : Word) : (k.setDe v).ime = k.ime := rfl
@[simp] theorem Cpu.setDe_eiPending (k : Cpu) (v : Word) : (k.setDe v).eiPending = k.eiPending := rfl
@[simp] theorem Cpu.setDe_halted (k : Cpu) (v : Word) : (k.setDe v).halted = k.halted := rfl
@[simp] theorem Cpu.setDe_locked (k : Cpu) (v : Word) : (k.setDe v).locked = k.locked := rfl

/-! ### Cpu.setHl -/

@[simp] theorem Cpu.setHl_a (k : Cpu) (v : Word) : (k.setHl v).a = k.a := rfl
@[simp] theorem Cpu.setHl_f (k : Cpu) (v : Word) : (k.setHl v).f = k.f := rfl
@[simp] theorem Cpu.setHl_b (k : Cpu) (v : Word) : (k.setHl v).b = k.b := rfl
@[simp] theorem Cpu.setHl_c (k : Cpu) (v : Word) : (k.setHl v).c = k.c := rfl
@[simp] theorem Cpu.setHl_d (k : Cpu) (v : Word) : (k.setHl v).d = k.d := rfl
@[simp] theorem Cpu.setHl_e (k : Cpu) (v : Word) : (k.setHl v).e = k.e := rfl
@[simp] theorem Cpu.setHl_h (k : Cpu) (v : Word) : (k.setHl v).h = hiByte v := rfl
@[simp] theorem Cpu.setHl_l (k : Cpu) (v : Word) : (k.setHl v).l = loByte v := rfl
@[simp] theorem Cpu.setHl_sp (k : Cpu) (v : Word) : (k.setHl v).sp = k.sp := rfl
@[simp] theorem Cpu.setHl_pc (k : Cpu) (v : Word) : (k.setHl v).pc = k.pc := rfl
@[simp] theorem Cpu.setHl_ime (k : Cpu) (v : Word) : (k.setHl v).ime = k.ime := rfl
@[simp] theorem Cpu.setHl_eiPending (k : Cpu) (v : Word) : (k.setHl v).eiPending = k.eiPending := rfl
@[simp] theorem Cpu.setHl_halted (k : Cpu) (v : Word) : (k.setHl v).halted = k.halted := rfl
@[simp] theorem Cpu.setHl_locked (k : Cpu) (v : Word) : (k.setHl v).locked = k.locked := rfl

/-! ### Cpu.setAf -/

@[simp] theorem Cpu.setAf_a (k : Cpu) (v : Word) : (k.setAf v).a = hiByte v := rfl
@[simp] theorem Cpu.setAf_f (k : Cpu) (v : Word) : (k.setAf v).f = loByte v &&& 0xF0 := rfl
@[simp] theorem Cpu.setAf_b (k : Cpu) (v : Word) : (k.setAf v).b = k.b := rfl
@[simp] theorem Cpu.setAf_c (k : Cpu) (v : Word) : (k.setAf v).c = k.c := rfl
@[simp] theorem Cpu.setAf_d (k : Cpu) (v : Word) : (k.setAf v).d = k.d := rfl
@[simp] theorem Cpu.setAf_e (k : Cpu) (v : Word) : (k.setAf v).e = k.e := rfl
@[simp] theorem Cpu.setAf_h (k : Cpu) (v : Word) : (k.setAf v).h = k.h := rfl
@[simp] theorem Cpu.setAf_l (k : Cpu) (v : Word) : (k.setAf v).l = k.l := rfl
@[simp] theorem Cpu.setAf_sp (k : Cpu) (v : Word) : (k.setAf v).sp = k.sp := rfl
@[simp] theorem Cpu.setAf_pc (k : Cpu) (v : Word) : (k.setAf v).pc = k.pc := rfl
@[simp] theorem Cpu.setAf_ime (k : Cpu) (v : Word) : (k.setAf v).ime = k.ime := rfl
@[simp] theorem Cpu.setAf_eiPending (k : Cpu) (v : Word) : (k.setAf v).eiPending = k.eiPending := rfl
@[simp] theorem Cpu.setAf_halted (k : Cpu) (v : Word) : (k.setAf v).halted = k.halted := rfl
@[simp] theorem Cpu.setAf_locked (k : Cpu) (v : Word) : (k.setAf v).locked = k.locked := rfl

/-! ### Cpu.setFlags -/

@[simp] theorem Cpu.setFlags_a (k : Cpu) (g : Flags) : (k.setFlags g).a = k.a := rfl
@[simp] theorem Cpu.setFlags_f (k : Cpu) (g : Flags) : (k.setFlags g).f = flagByte g := rfl
@[simp] theorem Cpu.setFlags_b (k : Cpu) (g : Flags) : (k.setFlags g).b = k.b := rfl
@[simp] theorem Cpu.setFlags_c (k : Cpu) (g : Flags) : (k.setFlags g).c = k.c := rfl
@[simp] theorem Cpu.setFlags_d (k : Cpu) (g : Flags) : (k.setFlags g).d = k.d := rfl
@[simp] theorem Cpu.setFlags_e (k : Cpu) (g : Flags) : (k.setFlags g).e = k.e := rfl
@[simp] theorem Cpu.setFlags_h (k : Cpu) (g : Flags) : (k.setFlags g).h = k.h := rfl
@[simp] theorem Cpu.setFlags_l (k : Cpu) (g : Flags) : (k.setFlags g).l = k.l := rfl
@[simp] theorem Cpu.setFlags_sp (k : Cpu) (g : Flags) : (k.setFlags g).sp = k.sp := rfl
@[simp] theorem Cpu.setFlags_pc (k : Cpu) (g : Flags) : (k.setFlags g).pc = k.pc := rfl
@[simp] theorem Cpu.setFlags_ime (k : Cpu) (g : Flags) : (k.setFlags g).ime = k.ime := rfl
@[simp] theorem Cpu.setFlags_eiPending (k : Cpu) (g : Flags) : (k.setFlags g).eiPending = k.eiPending := rfl
@[simp] theorem Cpu.setFlags_halted (k : Cpu) (g : Flags) : (k.setFlags g).halted = k.halted := rfl
@[simp] theorem Cpu.setFlags_locked (k : Cpu) (g : Flags) : (k.setFlags g).locked = k.locked := rfl

/-! ### Cpu.set: the fields no operand names -/

@[simp] theorem Cpu.set_f (k : Cpu) (r : Reg8) (v : Byte) : (k.set r v).f = k.f := by cases r <;> rfl
@[simp] theorem Cpu.set_sp (k : Cpu) (r : Reg8) (v : Byte) : (k.set r v).sp = k.sp := by cases r <;> rfl
@[simp] theorem Cpu.set_pc (k : Cpu) (r : Reg8) (v : Byte) : (k.set r v).pc = k.pc := by cases r <;> rfl
@[simp] theorem Cpu.set_ime (k : Cpu) (r : Reg8) (v : Byte) : (k.set r v).ime = k.ime := by cases r <;> rfl
@[simp] theorem Cpu.set_eiPending (k : Cpu) (r : Reg8) (v : Byte) : (k.set r v).eiPending = k.eiPending := by cases r <;> rfl
@[simp] theorem Cpu.set_halted (k : Cpu) (r : Reg8) (v : Byte) : (k.set r v).halted = k.halted := by cases r <;> rfl
@[simp] theorem Cpu.set_locked (k : Cpu) (r : Reg8) (v : Byte) : (k.set r v).locked = k.locked := by cases r <;> rfl

@[simp] theorem Cpu.get_set_same (k : Cpu) (r : Reg8) (v : Byte) : (k.set r v).get r = v := by cases r <;> rfl

theorem Cpu.get_set_other (k : Cpu) (r q : Reg8) (v : Byte) (h : q ≠ r) : (k.set r v).get q = k.get q := by
  cases r <;> cases q <;> first | rfl | exact absurd rfl h

/-! ### Pairs, flags -/

theorem getLsbD_concat (h l : Byte) (i : Nat) :
    (concat h l).getLsbD i = if i < 8 then l.getLsbD i else h.getLsbD (i - 8) :=
  BitVec.getLsbD_append (x := h) (y := l) (i := i)

theorem getLsbD_hiByte (v : Word) (i : Nat) (h : i < 8) : (hiByte v).getLsbD i = v.getLsbD (8 + i) := by
  simp only [hiByte, BitVec.getLsbD_extractLsb', h, decide_true, Bool.true_and]

theorem getLsbD_loByte (v : Word) (i : Nat) (h : i < 8) : (loByte v).getLsbD i = v.getLsbD i := by
  simp only [loByte, BitVec.getLsbD_extractLsb', h, decide_true, Bool.true_and, Nat.zero_add]

@[simp] theorem loByte_concat (h l : Byte) : loByte (concat h l) = l := by
  refine BitVec.eq_of_getLsbD_eq fun i hi => ?_
  simp only [getLsbD_loByte _ i hi, getLsbD_concat, hi, if_true]

@[simp] theorem hiByte_concat (h l : Byte) : hiByte (concat h l) = h := by
  refine BitVec.eq_of_getLsbD_eq fun i hi => ?_
  simp [getLsbD_hiByte _ i hi, getLsbD_concat]

@[simp] theorem concat_hi_lo (v : Word) : concat (hiByte v) (loByte v) = v := by
  refine BitVec.eq_of_getLsbD_eq fun i hi => ?_
  rw [getLsbD_concat]
  split_ifs with h
  · exact getLsbD_loByte v i h
  · rw [getLsbD_hiByte v _ (by omega), show 8 + (i - 8) = i by omega]

@[simp] theorem Cpu.bc_setBc (k : Cpu) (v : Word) : (k.setBc v).bc = v := by simp [Cpu.bc]
@[simp] theorem Cpu.de_setDe (k : Cpu) (v : Word) : (k.setDe v).de = v := by simp [Cpu.de]
@[simp] theorem Cpu.hl_setHl (k : Cpu) (v : Word) : (k.setHl v).hl = v := by simp [Cpu.hl]

@[simp] theorem flagsOf_flagByte (g : Flags) : flagsOf (flagByte g) = g := by
  obtain ⟨z, n, h, c⟩ := g
  cases z <;> cases n <;> cases h <;> cases c <;> rfl

@[simp] theorem flagByte_low (g : Flags) : flagByte g &&& 0x0F = 0 := by
  obtain ⟨z, n, h, c⟩ := g
  cases z <;> cases n <;> cases h <;> cases c <;> rfl

@[simp] theorem Cpu.flags_setFlags (k : Cpu) (g : Flags) : (k.setFlags g).flags = g := by simp [Cpu.flags]

end Sys2Proof.Machine
end

