-- ==== Sys2Proof/Laws/Bus.lean ====
section
/-! SUPPORT. What a bus access does (Machine/Bus.lean): a read depends on no CPU register, a write changes no CPU register,
and everything else a write can change. -/

namespace Sys2Proof.Machine

open Sys2Proof.Safety

/-! ### Reads do not depend on the CPU or the cycle count -/

@[simp] theorem ioRead_withCpuCycles (s : State) (k : Cpu) (n i : Nat) :
    ioRead { s with cpu := k, cycles := n } i = ioRead s i := by unfold ioRead; rfl

@[simp] theorem memRead_withCpuCycles (s : State) (k : Cpu) (n : Nat) (a : Word) :
    memRead { s with cpu := k, cycles := n } a = memRead s a := by
  simp only [memRead, ioRead_withCpuCycles]

@[simp] theorem memRead_withCpu (s : State) (k : Cpu) (a : Word) : memRead { s with cpu := k } a = memRead s a :=
  memRead_withCpuCycles s k s.cycles a

@[simp] theorem memRead_withCycles (s : State) (n : Nat) (a : Word) :
    memRead { s with cycles := n } a = memRead s a := memRead_withCpuCycles s s.cpu n a

@[simp] theorem memRead_setCpu (s : State) (k : Cpu) (a : Word) : memRead (s.setCpu k) a = memRead s a :=
  memRead_withCpu s k a

@[simp] theorem memRead_setPc (s : State) (v a : Word) : memRead (s.setPc v) a = memRead s a := memRead_setCpu s _ a

@[simp] theorem memRead_setSp (s : State) (v a : Word) : memRead (s.setSp v) a = memRead s a := memRead_setCpu s _ a

/-- A read is a function of the state without the CPU and the cycle count. -/
theorem memRead_congr (s t : State) (a : Word) (h : { s with cpu := t.cpu, cycles := t.cycles } = t) :
    memRead t a = memRead s a := by rw [← h, memRead_withCpuCycles]

/-! ### The DMA copy -/

/-- The DMA copy changes OAM alone, and keeps its canonical form. -/
theorem dmaCopy_cases (s : State) (v : Byte) : ∃ m, dmaCopy s v = { s with oam := m } ∧
    (s.oam.wf → m.wf) ∧ (s.oam.within 160 → m.within 160) := by
  unfold dmaCopy
  suffices h : ∀ (l : List Nat) (s : State), (∀ i ∈ l, i < 160) → ∃ m, l.foldl (dmaByte v) s = { s with oam := m } ∧
      (s.oam.wf → m.wf) ∧ (s.oam.within 160 → m.within 160) from h _ s fun i hi => List.mem_range.1 hi
  intro l
  induction l with
  | nil => exact fun s _ => ⟨s.oam, rfl, id, id⟩
  | cons i t ih =>
    intro s hl
    obtain ⟨m, e, hw, hr⟩ := ih (dmaByte v s i) fun j hj => hl j (by simp [hj])
    refine ⟨m, by rw [List.foldl_cons, e]; rfl, fun h => hw (Memory.write_wf _ _ _ h), fun h => hr ?_⟩
    exact Memory.write_within _ _ _ _ h (hl i (by simp))

@[simp] theorem dmaCopy_cpu (s : State) (v : Byte) : (dmaCopy s v).cpu = s.cpu := by
  obtain ⟨m, e, -⟩ := dmaCopy_cases s v; rw [e]

@[simp] theorem dmaCopy_ieReg (s : State) (v : Byte) : (dmaCopy s v).ieReg = s.ieReg := by
  obtain ⟨m, e, -⟩ := dmaCopy_cases s v; rw [e]

@[simp] theorem dmaCopy_ifReg (s : State) (v : Byte) : (dmaCopy s v).ifReg = s.ifReg := by
  obtain ⟨m, e, -⟩ := dmaCopy_cases s v; rw [e]

@[simp] theorem dmaCopy_bootMapped (s : State) (v : Byte) : (dmaCopy s v).bootMapped = s.bootMapped := by
  obtain ⟨m, e, -⟩ := dmaCopy_cases s v; rw [e]

@[simp] theorem dmaCopy_bootRom (s : State) (v : Byte) : (dmaCopy s v).bootRom = s.bootRom := by
  obtain ⟨m, e, -⟩ := dmaCopy_cases s v; rw [e]

@[simp] theorem dmaCopy_vram (s : State) (v : Byte) : (dmaCopy s v).vram = s.vram := by
  obtain ⟨m, e, -⟩ := dmaCopy_cases s v; rw [e]

@[simp] theorem dmaCopy_wram (s : State) (v : Byte) : (dmaCopy s v).wram = s.wram := by
  obtain ⟨m, e, -⟩ := dmaCopy_cases s v; rw [e]

@[simp] theorem dmaCopy_io (s : State) (v : Byte) : (dmaCopy s v).io = s.io := by
  obtain ⟨m, e, -⟩ := dmaCopy_cases s v; rw [e]

@[simp] theorem dmaCopy_hram (s : State) (v : Byte) : (dmaCopy s v).hram = s.hram := by
  obtain ⟨m, e, -⟩ := dmaCopy_cases s v; rw [e]

@[simp] theorem dmaCopy_sb (s : State) (v : Byte) : (dmaCopy s v).sb = s.sb := by
  obtain ⟨m, e, -⟩ := dmaCopy_cases s v; rw [e]

@[simp] theorem dmaCopy_sc (s : State) (v : Byte) : (dmaCopy s v).sc = s.sc := by
  obtain ⟨m, e, -⟩ := dmaCopy_cases s v; rw [e]

@[simp] theorem dmaCopy_dma (s : State) (v : Byte) : (dmaCopy s v).dma = s.dma := by
  obtain ⟨m, e, -⟩ := dmaCopy_cases s v; rw [e]

@[simp] theorem dmaCopy_bootOff (s : State) (v : Byte) : (dmaCopy s v).bootOff = s.bootOff := by
  obtain ⟨m, e, -⟩ := dmaCopy_cases s v; rw [e]

@[simp] theorem dmaCopy_cart (s : State) (v : Byte) : (dmaCopy s v).cart = s.cart := by
  obtain ⟨m, e, -⟩ := dmaCopy_cases s v; rw [e]

@[simp] theorem dmaCopy_ppu (s : State) (v : Byte) : (dmaCopy s v).ppu = s.ppu := by
  obtain ⟨m, e, -⟩ := dmaCopy_cases s v; rw [e]

@[simp] theorem dmaCopy_timer (s : State) (v : Byte) : (dmaCopy s v).timer = s.timer := by
  obtain ⟨m, e, -⟩ := dmaCopy_cases s v; rw [e]

@[simp] theorem dmaCopy_joypad (s : State) (v : Byte) : (dmaCopy s v).joypad = s.joypad := by
  obtain ⟨m, e, -⟩ := dmaCopy_cases s v; rw [e]

@[simp] theorem dmaCopy_stopMode (s : State) (v : Byte) : (dmaCopy s v).stopMode = s.stopMode := by
  obtain ⟨m, e, -⟩ := dmaCopy_cases s v; rw [e]

@[simp] theorem dmaCopy_cycles (s : State) (v : Byte) : (dmaCopy s v).cycles = s.cycles := by
  obtain ⟨m, e, -⟩ := dmaCopy_cases s v; rw [e]

theorem dmaByte_setCpu (s : State) (k : Cpu) (v : Byte) (i : Nat) :
    dmaByte v (s.setCpu k) i = (dmaByte v s i).setCpu k := by
  simp only [dmaByte, memRead_setCpu]; rfl

/-- The DMA copy and a CPU update commute. -/
theorem dmaCopy_setCpu (s : State) (k : Cpu) (v : Byte) : dmaCopy (s.setCpu k) v = (dmaCopy s v).setCpu k := by
  unfold dmaCopy
  suffices h : ∀ (l : List Nat) (s : State), l.foldl (dmaByte v) (s.setCpu k) = (l.foldl (dmaByte v) s).setCpu k from
    h _ s
  intro l
  induction l with
  | nil => exact fun _ => rfl
  | cons i t ih => exact fun s => by rw [List.foldl_cons, dmaByte_setCpu, ih]; rfl

/-! ### Writes: the fields that no write changes -/

@[simp] theorem ioWrite_cpu (s : State) (i : Nat) (v : Byte) : (ioWrite s i v).cpu = s.cpu := by
  unfold ioWrite; split <;> simp only [dmaCopy_cpu]

@[simp] theorem ioWrite_ieReg (s : State) (i : Nat) (v : Byte) : (ioWrite s i v).ieReg = s.ieReg := by
  unfold ioWrite; split <;> simp only [dmaCopy_ieReg]

@[simp] theorem ioWrite_bootRom (s : State) (i : Nat) (v : Byte) : (ioWrite s i v).bootRom = s.bootRom := by
  unfold ioWrite; split <;> simp only [dmaCopy_bootRom]

@[simp] theorem ioWrite_vram (s : State) (i : Nat) (v : Byte) : (ioWrite s i v).vram = s.vram := by
  unfold ioWrite; split <;> simp only [dmaCopy_vram]

@[simp] theorem ioWrite_wram (s : State) (i : Nat) (v : Byte) : (ioWrite s i v).wram = s.wram := by
  unfold ioWrite; split <;> simp only [dmaCopy_wram]

@[simp] theorem ioWrite_hram (s : State) (i : Nat) (v : Byte) : (ioWrite s i v).hram = s.hram := by
  unfold ioWrite; split <;> simp only [dmaCopy_hram]

@[simp] theorem ioWrite_cart (s : State) (i : Nat) (v : Byte) : (ioWrite s i v).cart = s.cart := by
  unfold ioWrite; split <;> simp only [dmaCopy_cart]

@[simp] theorem ioWrite_stopMode (s : State) (i : Nat) (v : Byte) : (ioWrite s i v).stopMode = s.stopMode := by
  unfold ioWrite; split <;> simp only [dmaCopy_stopMode]

@[simp] theorem ioWrite_cycles (s : State) (i : Nat) (v : Byte) : (ioWrite s i v).cycles = s.cycles := by
  unfold ioWrite; split <;> simp only [dmaCopy_cycles]

@[simp] theorem memWrite_cpu (s : State) (a : Word) (v : Byte) : (memWrite s a v).cpu = s.cpu := by
  simp only [memWrite]; split_ifs <;> simp only [ioWrite_cpu]

@[simp] theorem memWrite_bootRom (s : State) (a : Word) (v : Byte) : (memWrite s a v).bootRom = s.bootRom := by
  simp only [memWrite]; split_ifs <;> simp only [ioWrite_bootRom]

@[simp] theorem memWrite_stopMode (s : State) (a : Word) (v : Byte) : (memWrite s a v).stopMode = s.stopMode := by
  simp only [memWrite]; split_ifs <;> simp only [ioWrite_stopMode]

@[simp] theorem memWrite_cycles (s : State) (a : Word) (v : Byte) : (memWrite s a v).cycles = s.cycles := by
  simp only [memWrite]; split_ifs <;> simp only [ioWrite_cycles]

/-- A write and a CPU update commute: no write reads the CPU. -/
theorem ioWrite_setCpu (s : State) (k : Cpu) (i : Nat) (v : Byte) :
    ioWrite (s.setCpu k) i v = (ioWrite s i v).setCpu k := by
  unfold ioWrite
  split <;> first | (simp only [State.setCpu]; done) | exact dmaCopy_setCpu { s with dma := v } k v

/-- A write and a CPU update commute. -/
theorem memWrite_setCpu (s : State) (k : Cpu) (a : Word) (v : Byte) :
    memWrite (s.setCpu k) a v = (memWrite s a v).setCpu k := by
  simp only [memWrite, ioWrite_setCpu]
  split_ifs <;> simp only [State.setCpu]

@[simp] theorem setCpu_setCpu (s : State) (k q : Cpu) : (s.setCpu k).setCpu q = s.setCpu q := rfl

@[simp] theorem setCpu_self (s : State) : s.setCpu s.cpu = s := rfl

/-- No write changes which controller the cartridge has. -/
theorem mirrorsRam_memWrite (s : State) (a : Word) (v : Byte) :
    mirrorsRam (memWrite s a v).cart.mbc = mirrorsRam s.cart.mbc := by
  simp only [memWrite]; split_ifs <;> simp only [ioWrite_cart, mirrorsRam_cartWrite]

theorem ioWrite_bootMapped (s : State) (i : Nat) (v : Byte) :
    (ioWrite s i v).bootMapped = (s.bootMapped && decide (i ≠ 0x50)) := by
  unfold ioWrite; split <;> simp
  exact fun _ => ‹i = 80 → False›

/-- The boot ROM is unmapped by a write to 0xFF50 and mapped by none (R118). -/
theorem memWrite_bootMapped (s : State) (a : Word) (v : Byte) :
    (memWrite s a v).bootMapped = (s.bootMapped && decide (a ≠ 0xFF50)) := by
  have e : ∀ n, a.toNat = n → (a = 0xFF50 ↔ n = 0xFF50) := fun n h => by
    rw [← h]; exact ⟨fun x => by rw [x]; rfl, fun x => BitVec.eq_of_toNat_eq x⟩
  simp only [memWrite]
  generalize ha : a.toNat = n
  have := e n ha
  split_ifs <;> simp only [ioWrite_bootMapped, this, ne_eq] <;> (cases s.bootMapped <;> simp) <;> omega

/-! ### The regions, one lemma each way (R101-R109) -/

theorem memRead_rom (s : State) (a : Word) (h : 0x0100 ≤ a.toNat) (h' : a.toNat < 0x8000) :
    memRead s a = cartRead s.cart a.toNat := by
  simp only [memRead]; split_ifs <;> first | omega | rfl

theorem memWrite_rom (s : State) (a : Word) (v : Byte) (h' : a.toNat < 0x8000) :
    memWrite s a v = { s with cart := cartWrite s.cart a.toNat v } := by
  simp only [memWrite]; split_ifs <;> first | omega | rfl

theorem memRead_vram (s : State) (a : Word) (h : 0x8000 ≤ a.toNat) (h' : a.toNat < 0xA000) :
    memRead s a = s.vram.read (a.toNat - 0x8000) := by
  simp only [memRead]; split_ifs <;> first | omega | rfl

theorem memWrite_vram (s : State) (a : Word) (v : Byte) (h : 0x8000 ≤ a.toNat) (h' : a.toNat < 0xA000) :
    memWrite s a v = { s with vram := s.vram.write (a.toNat - 0x8000) v } := by
  simp only [memWrite]; split_ifs <;> first | omega | rfl

theorem memRead_cartRam (s : State) (a : Word) (h : 0xA000 ≤ a.toNat) (h' : a.toNat < 0xC000) :
    memRead s a = cartRead s.cart a.toNat := by
  simp only [memRead]; split_ifs <;> first | omega | rfl

theorem memWrite_cartRam (s : State) (a : Word) (v : Byte) (h : 0xA000 ≤ a.toNat) (h' : a.toNat < 0xC000) :
    memWrite s a v = { s with cart := cartWrite s.cart a.toNat v } := by
  simp only [memWrite]; split_ifs <;> first | omega | rfl

theorem memRead_wram (s : State) (a : Word) (h : 0xC000 ≤ a.toNat) (h' : a.toNat < 0xE000) :
    memRead s a = s.wram.read (a.toNat - 0xC000) := by
  simp only [memRead]; split_ifs <;> first | omega | rfl

theorem memWrite_wram (s : State) (a : Word) (v : Byte) (h : 0xC000 ≤ a.toNat) (h' : a.toNat < 0xE000) :
    memWrite s a v = { s with wram := s.wram.write (a.toNat - 0xC000) v } := by
  simp only [memWrite]; split_ifs <;> first | omega | rfl

theorem memRead_echo (s : State) (a : Word) (h : 0xE000 ≤ a.toNat) (h' : a.toNat < 0xFE00) :
    memRead s a = s.wram.read (a.toNat - 0xE000) := by
  simp only [memRead]; split_ifs <;> first | omega | rfl

theorem memWrite_echo (s : State) (a : Word) (v : Byte) (h : 0xE000 ≤ a.toNat) (h' : a.toNat < 0xFE00) :
    memWrite s a v = { s with wram := s.wram.write (a.toNat - 0xE000) v } := by
  simp only [memWrite]; split_ifs <;> first | omega | rfl

theorem memRead_oam (s : State) (a : Word) (h : 0xFE00 ≤ a.toNat) (h' : a.toNat < 0xFEA0) :
    memRead s a = s.oam.read (a.toNat - 0xFE00) := by
  simp only [memRead]; split_ifs <;> first | omega | rfl

theorem memWrite_oam (s : State) (a : Word) (v : Byte) (h : 0xFE00 ≤ a.toNat) (h' : a.toNat < 0xFEA0) :
    memWrite s a v = { s with oam := s.oam.write (a.toNat - 0xFE00) v } := by
  simp only [memWrite]; split_ifs <;> first | omega | rfl

theorem memRead_gap (s : State) (a : Word) (h : 0xFEA0 ≤ a.toNat) (h' : a.toNat < 0xFF00) :
    memRead s a = 0xFF := by
  simp only [memRead]; split_ifs <;> first | omega | rfl

theorem memWrite_gap (s : State) (a : Word) (v : Byte) (h : 0xFEA0 ≤ a.toNat) (h' : a.toNat < 0xFF00) :
    memWrite s a v = s := by
  simp only [memWrite]; split_ifs <;> first | omega | rfl

theorem memRead_io (s : State) (a : Word) (h : 0xFF00 ≤ a.toNat) (h' : a.toNat < 0xFF80) :
    memRead s a = ioRead s (a.toNat - 0xFF00) := by
  simp only [memRead]; split_ifs <;> first | omega | rfl

theorem memWrite_io (s : State) (a : Word) (v : Byte) (h : 0xFF00 ≤ a.toNat) (h' : a.toNat < 0xFF80) :
    memWrite s a v = ioWrite s (a.toNat - 0xFF00) v := by
  simp only [memWrite]; split_ifs <;> first | omega | rfl

theorem memRead_hram (s : State) (a : Word) (h : 0xFF80 ≤ a.toNat) (h' : a.toNat < 0xFFFF) :
    memRead s a = s.hram.read (a.toNat - 0xFF80) := by
  simp only [memRead]; split_ifs <;> first | omega | rfl

theorem memWrite_hram (s : State) (a : Word) (v : Byte) (h : 0xFF80 ≤ a.toNat) (h' : a.toNat < 0xFFFF) :
    memWrite s a v = { s with hram := s.hram.write (a.toNat - 0xFF80) v } := by
  simp only [memWrite]; split_ifs <;> first | omega | rfl

theorem memRead_low (s : State) (a : Word) (h : a.toNat < 0x0100) :
    memRead s a = if s.bootMapped = true then s.bootRom.read a.toNat else cartRead s.cart a.toNat := by
  simp only [memRead]; split_ifs <;> first | omega | rfl | simp_all

theorem memRead_ie (s : State) : memRead s 0xFFFF = s.ieReg := rfl

theorem memWrite_ie (s : State) (v : Byte) : memWrite s 0xFFFF v = { s with ieReg := v } := rfl

end Sys2Proof.Machine
end

