-- ==== Sys2Proof/Laws/Creation.lean ====
section
/-! SUPPORT. What creation makes (Machine/Creation.lean). -/

namespace Sys2Proof.Machine

/-- The bytes of a list make a canonical memory inside its array. -/
theorem loadBytes_wf (n : Nat) (l : List Byte) : (loadBytes n l).wf ∧ (loadBytes n l).within n :=
  ⟨Memory.ofBytes_wf _ _, Memory.ofBytes_within _ _ (by simp)⟩

/-- What it reads inside its array: the list's byte, `blank` past the list. -/
theorem read_loadBytes (n k : Nat) (l : List Byte) (h : k < n) : (loadBytes n l).read k = byteAt l k := by
  have e := Memory.read_ofBytes (l.take n) 0 k
  rw [Nat.zero_add] at e
  rw [loadBytes, e, byteAt, List.getD_eq_getElem?_getD, List.getElem?_take, if_pos h, List.getD_eq_getElem?_getD]

/-- A list of blank bytes makes the empty memory. -/
theorem ofBytes_replicate_blank (k n : Nat) : Memory.ofBytes k (List.replicate n blank) = [] := by
  induction n generalizing k with
  | zero => rfl
  | succ n ih => simp only [List.replicate_succ, Memory.ofBytes, if_true, ih]

/-- A created cartridge, and that the image was long enough and its ROM-size code known. -/
theorem createCart_ok (p : Params) (c : Cart) (h : createCart p = .ok c) :
    ¬ p.cartRom.length < 0x150 ∧ ∃ size, romSizeOfCode (byteAt p.cartRom 0x148).toNat = some size ∧
      c = { rom := loadBytes p.cartRom.length p.cartRom, romLen := p.cartRom.length, romSize := size
            ram := loadBytes (ramSizeOf (mbcOfType (byteAt p.cartRom 0x147).toNat) (byteAt p.cartRom 0x149).toNat)
              p.cartRamInit
            ramLen := ramSizeOf (mbcOfType (byteAt p.cartRom 0x147).toNat) (byteAt p.cartRom 0x149).toNat
            mbc := mbcOfType (byteAt p.cartRom 0x147).toNat } := by
  unfold createCart at h
  split at h
  · cases h
  split at h
  · cases h
  · cases h; exact ⟨‹_›, _, ‹_›, rfl⟩

/-- A created machine holds a created cartridge, in one of the two boot modes. -/
theorem create_ok (p : Params) (s : State) (h : create p = .ok s) : createCart p = .ok s.cart ∧
    (p.bootMode = .bootRom ∧ s = createBootRom p s.cart ∨ p.bootMode = .skipBoot ∧ s = createSkipBoot p s.cart) := by
  unfold create at h
  split at h
  · cases h
  · split at h <;> cases h
    · exact ⟨‹_›, .inl ⟨‹_›, rfl⟩⟩
    · exact ⟨‹_›, .inr ⟨‹_›, rfl⟩⟩

/-- Creation fails exactly where the cartridge's does. -/
theorem create_error (p : Params) : (∃ e, create p = .error e) ↔ ∃ e, createCart p = .error e := by
  unfold create
  cases createCart p with
  | error e => simp
  | ok c => cases p.bootMode <;> simp

end Sys2Proof.Machine
end

