-- ==== Sys2Proof/Laws/Devices.lean ====
section
/-! SUPPORT. What the device ticks and the host's actions do: the timer, the PPU and the joypad. -/

namespace Sys2Proof.Machine

open Sys2Proof.Safety

/-! ### Joypad -/

theorem writeP1_masked (j : Joypad) (v : Byte) : (writeP1 j v).p1 &&& 0xCF = 0 := by
  show v &&& 0x30 &&& 0xCF = 0
  rw [BitVec.and_assoc]; simp

/-! ### Timer -/

theorem timerPeriod_le (tac : Byte) : 4 ≤ timerPeriod tac ∧ timerPeriod tac ≤ 256 := by
  unfold timerPeriod; split <;> decide

theorem tickDivider_inv (t : Timer) (h : TimerInv t) : TimerInv (tickDivider t) := by
  have := h.divCounter
  unfold tickDivider
  split
  · exact ⟨Nat.zero_lt_succ 63, h.timaCounter⟩
  · exact ⟨by show t.divCounter + 1 < 64; omega, h.timaCounter⟩

theorem tickTima_inv (t : Timer) (h : TimerInv t) : TimerInv (tickTima t) := by
  have hp := timerPeriod_le t.tac
  unfold tickTima
  split
  · exact ⟨h.divCounter, Nat.zero_lt_succ 255⟩
  · rename_i hd
    split
    · rename_i he
      refine ⟨h.divCounter, ?_⟩
      simp only [timaDue, he, Bool.true_and, decide_eq_true_eq] at hd
      show t.timaCounter + 1 < 256
      omega
    · exact h

/-! ### PPU -/

theorem writeStat_inv (p : Ppu) (v : Byte) (h : PpuInv p) : PpuInv (writeStat p v) := by
  refine ⟨h.position, ?_, h.spriteCount, h.spriteRange, h.spriteOrder, h.rows, h.rowLength, h.indexLength⟩
  have e : ((v &&& 0x78) ||| (p.stat &&& 0x07)) &&& 0x83 = (p.stat &&& 0x83) &&& 0x07 := by
    refine BitVec.eq_of_getLsbD_eq fun i hi => ?_
    interval_cases i <;> simp
  show ((v &&& 0x78) ||| (p.stat &&& 0x07)) &&& 0x83 = modeBits p.mode
  rw [e, h.statMode]
  cases p.mode <;> rfl

/-- The first ten covering entries, ascending (R548). -/
theorem selectSprites_inv (p : Ppu) (oam : Memory) : (selectSprites p oam).length ≤ 10 ∧
    (∀ i ∈ selectSprites p oam, i < 40) ∧ (selectSprites p oam).Pairwise (· < ·) := by
  refine ⟨by simp [selectSprites], fun i hi => ?_, ?_⟩
  · exact List.mem_range.1 (List.mem_filter.1 (List.mem_of_mem_take hi)).1
  · exact ((List.pairwise_lt_range).filter _).sublist (List.take_sublist _ _)

theorem mem_selectSprites (p : Ppu) (oam : Memory) (i : Nat) (h : i ∈ selectSprites p oam) :
    i < 40 ∧ covers oam p.ly (spriteHeight p) i = true := by
  have := List.mem_filter.1 (List.mem_of_mem_take h)
  exact ⟨List.mem_range.1 this.1, this.2⟩

/-- What `PpuInv` says of everything but STAT. -/
structure PpuShape (p : Ppu) : Prop where
  position : InPosition p
  spriteCount : p.spriteList.length ≤ 10
  spriteRange : ∀ i ∈ p.spriteList, i < 40
  spriteOrder : p.spriteList.Pairwise (· < ·)
  rows : p.framebuffer.length = 144
  rowLength : ∀ r ∈ p.framebuffer, r.length = 160
  indexLength : p.bgIndexLine.length = 160

theorem PpuInv_shape (p : Ppu) (h : PpuInv p) : PpuShape p :=
  ⟨h.position, h.spriteCount, h.spriteRange, h.spriteOrder, h.rows, h.rowLength, h.indexLength⟩

/-- A rendered line keeps the shapes of the framebuffer and of the index line (R550). -/
theorem renderLine_shape (p : Ppu) (vram oam : Memory) (hr : p.framebuffer.length = 144)
    (hl : ∀ r ∈ p.framebuffer, r.length = 160) :
    (renderLine p vram oam).framebuffer.length = 144 ∧
      (∀ r ∈ (renderLine p vram oam).framebuffer, r.length = 160) ∧
      (renderLine p vram oam).bgIndexLine.length = 160 := by
  refine ⟨by simpa [renderLine] using hr, fun r h => ?_, by simp [renderLine]⟩
  rcases List.mem_or_eq_of_mem_set h with h | rfl
  · exact hl r h
  · simp

/-- The mode part of a tick keeps everything `PpuInv` says but STAT, which the second part writes. -/
theorem ppuAdvance_shape (p : Ppu) (vram oam : Memory) (h : PpuInv p) : PpuShape (ppuAdvance p vram oam).ppu := by
  have hpos := h.position
  have hs := PpuInv_shape p h
  unfold InPosition at hpos
  unfold ppuAdvance
  have h1 : (p.ly + 1).toNat = (p.ly.toNat + 1) % 256 := by rw [BitVec.toNat_add]; rfl
  split <;> rename_i hm <;> simp only [hm] at hpos ⊢
  · split_ifs with hd
    · obtain ⟨c, r, o⟩ := selectSprites_inv { p with dot := p.dot + 1 } oam
      refine ⟨?_, c, r, o, hs.rows, hs.rowLength, hs.indexLength⟩
      simp only [InPosition]; omega
    · refine ⟨?_, hs.spriteCount, hs.spriteRange, hs.spriteOrder, hs.rows, hs.rowLength, hs.indexLength⟩
      simp only [InPosition]; omega
  · split_ifs with hd
    · obtain ⟨a, b, c⟩ := renderLine_shape { p with dot := p.dot + 1 } vram oam hs.rows hs.rowLength
      refine ⟨?_, hs.spriteCount, hs.spriteRange, hs.spriteOrder, a, b, c⟩
      simp only [InPosition, renderLine]; omega
    · refine ⟨?_, hs.spriteCount, hs.spriteRange, hs.spriteOrder, hs.rows, hs.rowLength, hs.indexLength⟩
      simp only [InPosition]; omega
  · split_ifs with hd hl
    · refine ⟨?_, hs.spriteCount, hs.spriteRange, hs.spriteOrder, hs.rows, hs.rowLength, hs.indexLength⟩
      have : (p.ly + 1).toNat = 144 := congrArg BitVec.toNat hl
      simp only [InPosition]; omega
    · refine ⟨?_, hs.spriteCount, hs.spriteRange, hs.spriteOrder, hs.rows, hs.rowLength, hs.indexLength⟩
      have : (p.ly + 1).toNat ≠ 144 := fun e => hl (BitVec.eq_of_toNat_eq e)
      simp only [InPosition]; omega
    · refine ⟨?_, hs.spriteCount, hs.spriteRange, hs.spriteOrder, hs.rows, hs.rowLength, hs.indexLength⟩
      simp only [InPosition]; omega
  · split_ifs with hd hl
    · refine ⟨?_, hs.spriteCount, hs.spriteRange, hs.spriteOrder, hs.rows, hs.rowLength, hs.indexLength⟩
      simp [InPosition]
    · refine ⟨?_, hs.spriteCount, hs.spriteRange, hs.spriteOrder, hs.rows, hs.rowLength, hs.indexLength⟩
      have : (p.ly + 1).toNat ≠ 154 := fun e => hl (BitVec.eq_of_toNat_eq e)
      simp only [InPosition]; omega
    · refine ⟨?_, hs.spriteCount, hs.spriteRange, hs.spriteOrder, hs.rows, hs.rowLength, hs.indexLength⟩
      simp only [InPosition]; omega

/-- The STAT update writes the mode into bits 1..0 and 0 into the unused stored bit 7 (R545). -/
theorem updateStat_inv (p : Ppu) (h : PpuShape p) : PpuInv (updateStat p) := by
  refine ⟨h.position, ?_, h.spriteCount, h.spriteRange, h.spriteOrder, h.rows, h.rowLength, h.indexLength⟩
  show ((p.stat &&& 0x78) ||| (if coincidence p then 0x04 else 0x00) ||| modeBits p.mode) &&& 0x83 = modeBits p.mode
  refine BitVec.eq_of_getLsbD_eq fun i hi => ?_
  cases p.mode <;> cases coincidence p <;> interval_cases i <;> simp [modeBits]

end Sys2Proof.Machine
end

