-- ==== Sys2Proof/Laws/Ops.lean ====
section
/-! SUPPORT. What the shared operations of Machine/Ops.lean do, as CPU updates around bus writes. -/

namespace Sys2Proof.Machine

open Sys2Proof.Safety

/-- A byte pushed: SP goes down by one, the byte is written there, nothing else of the CPU changes. -/
theorem pushByte_eq (s : State) (v : Byte) :
    pushByte s v = (memWrite s (s.cpu.sp - 1) v).setCpu { s.cpu with sp := s.cpu.sp - 1 } := by
  simp only [pushByte, State.setSp, memWrite_setCpu]

/-- A word pushed: the high byte at SP - 1, then the low byte at SP - 2 (R13). -/
theorem push16_eq (s : State) (v : Word) :
    push16 s v = (memWrite (memWrite s (s.cpu.sp - 1) (hiByte v)) (s.cpu.sp - 2) (loByte v)).setCpu
      { s.cpu with sp := s.cpu.sp - 2 } := by
  have e : s.cpu.sp - 1 - 1 = s.cpu.sp - 2 := by rw [BitVec.sub_sub]; rfl
  simp only [push16, pushByte_eq, State.setCpu_cpu, memWrite_setCpu, setCpu_setCpu, e]

@[simp] theorem push16_cpu (s : State) (v : Word) : (push16 s v).cpu = { s.cpu with sp := s.cpu.sp - 2 } := by
  rw [push16_eq]; rfl

@[simp] theorem push16_cycles (s : State) (v : Word) : (push16 s v).cycles = s.cycles := by
  rw [push16_eq]; simp

@[simp] theorem push16_stopMode (s : State) (v : Word) : (push16 s v).stopMode = s.stopMode := by
  rw [push16_eq]; simp

/-- A word popped: the low byte at SP, the high byte at SP + 1, SP goes up by two; memory is as before (R13). -/
theorem pop16_eq (s : State) :
    pop16 s = (concat (memRead s (s.cpu.sp + 1)) (memRead s s.cpu.sp), s.setCpu { s.cpu with sp := s.cpu.sp + 2 }) := rfl

/-- A return: PC is the word popped (R438). -/
theorem popPc_eq (s : State) :
    popPc s = s.setCpu { s.cpu with
      sp := s.cpu.sp + 2, pc := concat (memRead s (s.cpu.sp + 1)) (memRead s s.cpu.sp) } := rfl

/-- The return from an interrupt (R444). -/
theorem returnInterrupt_eq (s : State) :
    returnInterrupt s = s.setCpu { s.cpu with
      sp := s.cpu.sp + 2, pc := concat (memRead s (s.cpu.sp + 1)) (memRead s s.cpu.sp)
      ime := true, eiPending := false } := rfl

/-- `finish` answers the next state, and nothing but the cycle count differs from its argument. -/
theorem finish_eq_next (n : Nat) (s t : State) : finish n s = .next t ↔ t = { s with cycles := n } := by
  simp only [finish, Host.Outcome.next.injEq]; exact eq_comm

/-- The lowest pending source: bit k is set and no bit below it (R505). -/
theorem lowestPending_spec (p : Byte) (h : p &&& 0x1F ≠ 0) :
    lowestPending p < 5 ∧ p.getLsbD (lowestPending p) = true ∧ ∀ j < lowestPending p, p.getLsbD j = false := by
  have := (by decide : ∀ p : Byte, p &&& 0x1F ≠ 0 → lowestPending p < 5 ∧ p.getLsbD (lowestPending p) = true ∧
    ∀ j < 5, j < lowestPending p → p.getLsbD j = false) p h
  exact ⟨this.1, this.2.1, fun j hj => this.2.2 j (by omega) hj⟩

/-- The CPU after a dispatch (R506). -/
theorem dispatch_cpu (s : State) (k : Nat) : (dispatch s k).cpu =
    { s.cpu with halted := false, ime := false, eiPending := false, sp := s.cpu.sp - 2, pc := vector k } := by
  simp [dispatch, State.setPc]

/-- A dispatch is two bus writes around a CPU update, with source k acknowledged first (R506). -/
theorem dispatch_eq (s : State) (k : Nat) : dispatch s k =
    { (memWrite (memWrite { s with ifReg := s.ifReg &&& ~~~ ((1 : Byte) <<< k) } (s.cpu.sp - 1) (hiByte s.cpu.pc))
        (s.cpu.sp - 2) (loByte s.cpu.pc)) with
      cpu := { s.cpu with halted := false, ime := false, eiPending := false, sp := s.cpu.sp - 2, pc := vector k }
      cycles := 5 } := by
  have h := push16_eq ({ s with ifReg := s.ifReg &&& ~~~ ((1 : Byte) <<< k)
                                cpu := { s.cpu with halted := false, ime := false, eiPending := false } }) s.cpu.pc
  have e : ({ s with ifReg := s.ifReg &&& ~~~ ((1 : Byte) <<< k)
                     cpu := { s.cpu with halted := false, ime := false, eiPending := false } } : State) =
      State.setCpu { s with ifReg := s.ifReg &&& ~~~ ((1 : Byte) <<< k) }
        { s.cpu with halted := false, ime := false, eiPending := false } := rfl
  rw [e] at h
  simp only [dispatch]
  rw [e, h]
  simp only [memWrite_setCpu]
  rfl

end Sys2Proof.Machine
end

