-- ==== Sys2Proof/Laws/Operands.lean ====
section
/-! SUPPORT. What each operation of Machine/Operands.lean does: one CPU update, and the bus writes before it. -/

namespace Sys2Proof.Machine

@[simp] theorem readR8_reg (s : State) (r : Reg8) : readR8 s (.reg r) = s.cpu.get r := rfl
@[simp] theorem readR8_atHl (s : State) : readR8 s .atHl = memRead s s.cpu.hl := rfl
@[simp] theorem writeR8_reg (s : State) (r : Reg8) (v : Byte) :
    writeR8 s (.reg r) v = s.setCpu (s.cpu.set r v) := rfl
@[simp] theorem writeR8_atHl (s : State) (v : Byte) : writeR8 s .atHl v = memWrite s s.cpu.hl v := rfl

@[simp] theorem readR16_writeR16_same (k : Cpu) (r : R16) (v : Word) : readR16 (writeR16 k r v) r = v := by
  cases r <;> simp [readR16, writeR16]

/-- Writing a pair changes no flag byte. -/
@[simp] theorem writeR16_f (k : Cpu) (r : R16) (v : Word) : (writeR16 k r v).f = k.f := by cases r <;> rfl

@[simp] theorem writeR16_pc (k : Cpu) (r : R16) (v : Word) : (writeR16 k r v).pc = k.pc := by cases r <;> rfl

/-- A popped F has no low bit (R33). -/
theorem writeR16Stk_f (k : Cpu) (r : R16Stk) (v : Word) (h : k.f &&& 0x0F = 0) :
    (writeR16Stk k r v).f &&& 0x0F = 0 := by
  cases r with
  | af =>
    show (loByte v &&& 0xF0) &&& 0x0F = 0
    rw [BitVec.and_assoc]; simp
  | _ => exact h

/-- Popping what a pair holds gives the pair back, but for the low bits of F. -/
theorem readR16Stk_writeR16Stk (k : Cpu) (r : R16Stk) (v : Word) :
    readR16Stk (writeR16Stk k r v) r = if r = .af then concat (hiByte v) (loByte v &&& 0xF0) else v := by
  cases r <;> simp [readR16Stk, writeR16Stk, Cpu.af]

theorem updateR8_reg (r : Reg8) (t : Byte × Flags) (s : State) :
    updateR8 (.reg r) t s = s.setCpu ((s.cpu.set r t.1).setFlags t.2) := rfl

theorem updateR8_atHl (t : Byte × Flags) (s : State) :
    updateR8 .atHl t s = (memWrite s s.cpu.hl t.1).setCpu (s.cpu.setFlags t.2) := by
  simp [updateR8]

theorem storeAcc_eq (m : R16Mem) (s : State) :
    storeAcc m s = (memWrite s (r16MemAddress s.cpu m) s.cpu.a).setCpu (r16MemAfter s.cpu m) := by
  simp [storeAcc]

/-- What an `R16MEM` operand does to the CPU: HL alone (R206). -/
theorem r16MemAfter_eq (k : Cpu) (m : R16Mem) : ∃ v, r16MemAfter k m = k.setHl v := by
  cases m with
  | bc => exact ⟨k.hl, by simp [r16MemAfter, Cpu.setHl, Cpu.hl]⟩
  | de => exact ⟨k.hl, by simp [r16MemAfter, Cpu.setHl, Cpu.hl]⟩
  | hlInc => exact ⟨_, rfl⟩
  | hlDec => exact ⟨_, rfl⟩

theorem pushPair_eq (r : R16Stk) (s : State) : pushPair r s =
    (memWrite (memWrite s (s.cpu.sp - 1) (hiByte (readR16Stk s.cpu r))) (s.cpu.sp - 2)
      (loByte (readR16Stk s.cpu r))).setCpu { s.cpu with sp := s.cpu.sp - 2 } := push16_eq s _

theorem popPair_eq (r : R16Stk) (s : State) : popPair r s = s.setCpu
    (writeR16Stk { s.cpu with sp := s.cpu.sp + 2 } r (concat (memRead s (s.cpu.sp + 1)) (memRead s s.cpu.sp))) := rfl

theorem call_eq (a : Word) (s : State) : call a s =
    (memWrite (memWrite s (s.cpu.sp - 1) (hiByte s.cpu.pc)) (s.cpu.sp - 2) (loByte s.cpu.pc)).setCpu
      { s.cpu with sp := s.cpu.sp - 2, pc := a } := by
  simp only [call, State.setPc, push16_eq]; rfl

/-- A conditional instruction always completes: taken with its operation, or untaken with the fetch alone (R430). -/
theorem branch_eq (cc : Cond) (base taken : Nat) (f : State → State) (s : State) :
    branch cc base taken f s = if holds s.cpu cc then finish taken (f s) else finish base s := rfl

/-- The ALU operations write A and F alone (R330). -/
theorem aluAcc_eq (op : AluOp) (v : Byte) (s : State) : aluAcc op v s = s.setCpu
    { s.cpu with
      a := if op = .cp then s.cpu.a else (aluResult op s.cpu.a v s.cpu.flags.c).1
      f := flagByte (aluResult op s.cpu.a v s.cpu.flags.c).2 } := by
  cases op <;> rfl

theorem accOp_eq (op : AccOp) (s : State) : accOp op s = s.setCpu
    { s.cpu with a := (accResult op s.cpu.a s.cpu.flags).1, f := flagByte (accResult op s.cpu.a s.cpu.flags).2 } := rfl

end Sys2Proof.Machine
end

