-- ==== Sys2Proof/Laws/Exec.lean ====
section
/-! SUPPORT. What any instruction can do, said once: at most two bus writes, one CPU update that keeps the flag byte's low
nibble 0, and 1 to 6 cycles. STOP alone can refuse. -/

namespace Sys2Proof.Machine

/-- Bytes stored one after the other. -/
def storeAll (s : State) (w : List (Word × Byte)) : State := w.foldl (fun t x => memWrite t x.1 x.2) s

/-- `t` is `s` after at most two bus writes and a CPU update that keeps F's low nibble 0. -/
def Effect (s t : State) : Prop := ∃ (w : List (Word × Byte)) (k : Cpu), w.length ≤ 2 ∧
  (s.cpu.f &&& 0x0F = 0 → k.f &&& 0x0F = 0) ∧ t = (storeAll s w).setCpu k

/-- The outcome `o` is a next state: an effect on `s`, with 1 to 6 cycles. -/
def Completes (s : State) (o : Result) : Prop := ∃ t n, Effect s t ∧ 1 ≤ n ∧ n ≤ 6 ∧ o = finish n t

theorem low_setFlags (k : Cpu) (g : Flags) {p : Prop} : p → (k.setFlags g).f &&& 0x0F = 0 := fun _ => flagByte_low g

theorem effect_cpu (s : State) (k : Cpu) (h : s.cpu.f &&& 0x0F = 0 → k.f &&& 0x0F = 0) : Effect s (s.setCpu k) :=
  ⟨[], k, Nat.zero_le 2, h, rfl⟩

theorem effect_refl (s : State) : Effect s s := effect_cpu s s.cpu id

theorem effect_write (s : State) (a : Word) (v : Byte) : Effect s (memWrite s a v) :=
  ⟨[(a, v)], s.cpu, Nat.succ_le_succ (Nat.zero_le 1), id, by
    show _ = (memWrite s a v).setCpu s.cpu
    conv_rhs => rw [← memWrite_cpu s a v]
    rfl⟩

theorem effect_writeCpu (s : State) (a : Word) (v : Byte) (k : Cpu) (h : s.cpu.f &&& 0x0F = 0 → k.f &&& 0x0F = 0) :
    Effect s ((memWrite s a v).setCpu k) := ⟨[(a, v)], k, Nat.succ_le_succ (Nat.zero_le 1), h, rfl⟩

theorem effect_write2Cpu (s : State) (a b : Word) (v w : Byte) (k : Cpu) (h : s.cpu.f &&& 0x0F = 0 → k.f &&& 0x0F = 0) :
    Effect s ((memWrite (memWrite s a v) b w).setCpu k) := ⟨[(a, v), (b, w)], k, Nat.le_refl 2, h, rfl⟩

theorem effect_write2 (s : State) (a b : Word) (v w : Byte) : Effect s (memWrite (memWrite s a v) b w) := by
  have h := effect_write2Cpu s a b v w s.cpu id
  have e : (memWrite (memWrite s a v) b w).cpu = s.cpu := by simp
  rw [← e] at h
  exact h

theorem effect_writeR8 (s : State) (r : R8) (v : Byte) : Effect s (writeR8 s r v) := by
  cases r with
  | reg r => exact effect_cpu s _ (by simp)
  | atHl => exact effect_write s _ v

theorem effect_updateR8 (r : R8) (t : Byte × Flags) (s : State) : Effect s (updateR8 r t s) := by
  cases r with
  | reg r => exact effect_cpu s _ (low_setFlags _ _)
  | atHl => rw [updateR8_atHl]; exact effect_writeCpu s _ _ _ (low_setFlags _ _)

theorem effect_aluAcc (op : AluOp) (v : Byte) (s : State) : Effect s (aluAcc op v s) := by
  rw [aluAcc_eq]; exact effect_cpu s _ fun _ => flagByte_low _

theorem effect_accOp (op : AccOp) (s : State) : Effect s (accOp op s) := by
  rw [accOp_eq]; exact effect_cpu s _ fun _ => flagByte_low _

theorem effect_writeR16 (s : State) (r : R16) (v : Word) : Effect s (s.setCpu (writeR16 s.cpu r v)) :=
  effect_cpu s _ (by simp)

theorem effect_storeAcc (m : R16Mem) (s : State) : Effect s (storeAcc m s) := by
  rw [storeAcc_eq]
  obtain ⟨v, e⟩ := r16MemAfter_eq s.cpu m
  rw [e]; exact effect_writeCpu s _ _ _ id

theorem effect_loadAcc (m : R16Mem) (s : State) : Effect s (loadAcc m s) := by
  cases m <;> exact effect_cpu s _ id

theorem effect_popPair (r : R16Stk) (s : State) : Effect s (popPair r s) := by
  rw [popPair_eq]; exact effect_cpu s _ fun h => writeR16Stk_f _ r _ h

theorem effect_popPc (s : State) : Effect s (popPc s) := by rw [popPc_eq]; exact effect_cpu s _ id

theorem effect_returnInterrupt (s : State) : Effect s (returnInterrupt s) := by
  rw [returnInterrupt_eq]; exact effect_cpu s _ id

theorem effect_push (r : R16Stk) (s : State) : Effect s (pushPair r s) := by
  rw [pushPair_eq]; exact effect_write2Cpu s _ _ _ _ _ id

theorem effect_call (a : Word) (s : State) : Effect s (call a s) := by
  rw [call_eq]; exact effect_write2Cpu s _ _ _ _ _ id

theorem completes_finish {s t : State} {n : Nat} (h : Effect s t) (h1 : 1 ≤ n := by decide) (h6 : n ≤ 6 := by decide) :
    Completes s (finish n t) := ⟨t, n, h, h1, h6, rfl⟩

theorem completes_branch {s : State} {cc : Cond} {b n : Nat} {f : State → State} (h : Effect s (f s))
    (h1 : 1 ≤ n := by decide) (h6 : n ≤ 6 := by decide) (g1 : 1 ≤ b := by decide) (g6 : b ≤ 6 := by decide) :
    Completes s (branch cc b n f s) := by
  rw [branch_eq]; split
  · exact ⟨_, _, h, h1, h6, rfl⟩
  · exact ⟨_, _, effect_refl s, g1, g6, rfl⟩

/-- What the prefixed table does (R400-R411). -/
theorem completes_runCb (x : Byte) (s : State) : Completes s (runCb x s) := by
  unfold runCb; dsimp only; split
  · exact completes_finish (effect_updateR8 _ _ _) (by split <;> decide) (by split <;> decide)
  · exact completes_finish (effect_cpu _ _ (low_setFlags _ _)) (by split <;> decide) (by split <;> decide)
  · exact completes_finish (effect_writeR8 _ _ _) (by split <;> decide) (by split <;> decide)
  · exact completes_finish (effect_writeR8 _ _ _) (by split <;> decide) (by split <;> decide)

/-- Every instruction but STOP completes, whatever the state (R250). -/
theorem exec_completes (i : Instr) (s : State) (h : ∀ x, i ≠ .stop x) : Completes s (exec i s) :=
  match i with
  | .nop => completes_finish (effect_refl _)
  | .ldBcN16 _ => completes_finish (effect_writeR16 _ _ _)
  | .ldAtBcA => completes_finish (effect_storeAcc _ _)
  | .incBc => completes_finish (effect_writeR16 _ _ _)
  | .incB => completes_finish (effect_updateR8 _ _ _)
  | .decB => completes_finish (effect_updateR8 _ _ _)
  | .ldBN8 _ => completes_finish (effect_writeR8 _ _ _)
  | .rlca => completes_finish (effect_accOp _ _)
  | .ldAtN16Sp _ => completes_finish (effect_write2 _ _ _ _ _)
  | .addHlBc => completes_finish (effect_cpu _ _ (low_setFlags _ _))
  | .ldAAtBc => completes_finish (effect_loadAcc _ _)
  | .decBc => completes_finish (effect_writeR16 _ _ _)
  | .incC => completes_finish (effect_updateR8 _ _ _)
  | .decC => completes_finish (effect_updateR8 _ _ _)
  | .ldCN8 _ => completes_finish (effect_writeR8 _ _ _)
  | .rrca => completes_finish (effect_accOp _ _)
  | .stop x => absurd rfl (h x)
  | .ldDeN16 _ => completes_finish (effect_writeR16 _ _ _)
  | .ldAtDeA => completes_finish (effect_storeAcc _ _)
  | .incDe => completes_finish (effect_writeR16 _ _ _)
  | .incD => completes_finish (effect_updateR8 _ _ _)
  | .decD => completes_finish (effect_updateR8 _ _ _)
  | .ldDN8 _ => completes_finish (effect_writeR8 _ _ _)
  | .rla => completes_finish (effect_accOp _ _)
  | .jrE8 _ => completes_finish (effect_cpu _ _ id)
  | .addHlDe => completes_finish (effect_cpu _ _ (low_setFlags _ _))
  | .ldAAtDe => completes_finish (effect_loadAcc _ _)
  | .decDe => completes_finish (effect_writeR16 _ _ _)
  | .incE => completes_finish (effect_updateR8 _ _ _)
  | .decE => completes_finish (effect_updateR8 _ _ _)
  | .ldEN8 _ => completes_finish (effect_writeR8 _ _ _)
  | .rra => completes_finish (effect_accOp _ _)
  | .jrNzE8 _ => completes_branch (effect_cpu _ _ id)
  | .ldHlN16 _ => completes_finish (effect_writeR16 _ _ _)
  | .ldAtHlIncA => completes_finish (effect_storeAcc _ _)
  | .incHl => completes_finish (effect_writeR16 _ _ _)
  | .incH => completes_finish (effect_updateR8 _ _ _)
  | .decH => completes_finish (effect_updateR8 _ _ _)
  | .ldHN8 _ => completes_finish (effect_writeR8 _ _ _)
  | .daa => completes_finish (effect_accOp _ _)
  | .jrZE8 _ => completes_branch (effect_cpu _ _ id)
  | .addHlHl => completes_finish (effect_cpu _ _ (low_setFlags _ _))
  | .ldAAtHlInc => completes_finish (effect_loadAcc _ _)
  | .decHl => completes_finish (effect_writeR16 _ _ _)
  | .incL => completes_finish (effect_updateR8 _ _ _)
  | .decL => completes_finish (effect_updateR8 _ _ _)
  | .ldLN8 _ => completes_finish (effect_writeR8 _ _ _)
  | .cpl => completes_finish (effect_accOp _ _)
  | .jrNcE8 _ => completes_branch (effect_cpu _ _ id)
  | .ldSpN16 _ => completes_finish (effect_writeR16 _ _ _)
  | .ldAtHlDecA => completes_finish (effect_storeAcc _ _)
  | .incSp => completes_finish (effect_writeR16 _ _ _)
  | .incAtHl => completes_finish (effect_updateR8 _ _ _)
  | .decAtHl => completes_finish (effect_updateR8 _ _ _)
  | .ldAtHlN8 _ => completes_finish (effect_writeR8 _ _ _)
  | .scf => completes_finish (effect_accOp _ _)
  | .jrCE8 _ => completes_branch (effect_cpu _ _ id)
  | .addHlSp => completes_finish (effect_cpu _ _ (low_setFlags _ _))
  | .ldAAtHlDec => completes_finish (effect_loadAcc _ _)
  | .decSp => completes_finish (effect_writeR16 _ _ _)
  | .incA => completes_finish (effect_updateR8 _ _ _)
  | .decA => completes_finish (effect_updateR8 _ _ _)
  | .ldAN8 _ => completes_finish (effect_writeR8 _ _ _)
  | .ccf => completes_finish (effect_accOp _ _)
  | .ldBB => completes_finish (effect_writeR8 _ _ _)
  | .ldBC => completes_finish (effect_writeR8 _ _ _)
  | .ldBD => completes_finish (effect_writeR8 _ _ _)
  | .ldBE => completes_finish (effect_writeR8 _ _ _)
  | .ldBH => completes_finish (effect_writeR8 _ _ _)
  | .ldBL => completes_finish (effect_writeR8 _ _ _)
  | .ldBAtHl => completes_finish (effect_writeR8 _ _ _)
  | .ldBA => completes_finish (effect_writeR8 _ _ _)
  | .ldCB => completes_finish (effect_writeR8 _ _ _)
  | .ldCC => completes_finish (effect_writeR8 _ _ _)
  | .ldCD => completes_finish (effect_writeR8 _ _ _)
  | .ldCE => completes_finish (effect_writeR8 _ _ _)
  | .ldCH => completes_finish (effect_writeR8 _ _ _)
  | .ldCL => completes_finish (effect_writeR8 _ _ _)
  | .ldCAtHl => completes_finish (effect_writeR8 _ _ _)
  | .ldCA => completes_finish (effect_writeR8 _ _ _)
  | .ldDB => completes_finish (effect_writeR8 _ _ _)
  | .ldDC => completes_finish (effect_writeR8 _ _ _)
  | .ldDD => completes_finish (effect_writeR8 _ _ _)
  | .ldDE => completes_finish (effect_writeR8 _ _ _)
  | .ldDH => completes_finish (effect_writeR8 _ _ _)
  | .ldDL => completes_finish (effect_writeR8 _ _ _)
  | .ldDAtHl => completes_finish (effect_writeR8 _ _ _)
  | .ldDA => completes_finish (effect_writeR8 _ _ _)
  | .ldEB => completes_finish (effect_writeR8 _ _ _)
  | .ldEC => completes_finish (effect_writeR8 _ _ _)
  | .ldED => completes_finish (effect_writeR8 _ _ _)
  | .ldEE => completes_finish (effect_writeR8 _ _ _)
  | .ldEH => completes_finish (effect_writeR8 _ _ _)
  | .ldEL => completes_finish (effect_writeR8 _ _ _)
  | .ldEAtHl => completes_finish (effect_writeR8 _ _ _)
  | .ldEA => completes_finish (effect_writeR8 _ _ _)
  | .ldHB => completes_finish (effect_writeR8 _ _ _)
  | .ldHC => completes_finish (effect_writeR8 _ _ _)
  | .ldHD => completes_finish (effect_writeR8 _ _ _)
  | .ldHE => completes_finish (effect_writeR8 _ _ _)
  | .ldHH => completes_finish (effect_writeR8 _ _ _)
  | .ldHL => completes_finish (effect_writeR8 _ _ _)
  | .ldHAtHl => completes_finish (effect_writeR8 _ _ _)
  | .ldHA => completes_finish (effect_writeR8 _ _ _)
  | .ldLB => completes_finish (effect_writeR8 _ _ _)
  | .ldLC => completes_finish (effect_writeR8 _ _ _)
  | .ldLD => completes_finish (effect_writeR8 _ _ _)
  | .ldLE => completes_finish (effect_writeR8 _ _ _)
  | .ldLH => completes_finish (effect_writeR8 _ _ _)
  | .ldLL => completes_finish (effect_writeR8 _ _ _)
  | .ldLAtHl => completes_finish (effect_writeR8 _ _ _)
  | .ldLA => completes_finish (effect_writeR8 _ _ _)
  | .ldAtHlB => completes_finish (effect_writeR8 _ _ _)
  | .ldAtHlC => completes_finish (effect_writeR8 _ _ _)
  | .ldAtHlD => completes_finish (effect_writeR8 _ _ _)
  | .ldAtHlE => completes_finish (effect_writeR8 _ _ _)
  | .ldAtHlH => completes_finish (effect_writeR8 _ _ _)
  | .ldAtHlL => completes_finish (effect_writeR8 _ _ _)
  | .halt => completes_finish (effect_cpu _ _ id)
  | .ldAtHlA => completes_finish (effect_writeR8 _ _ _)
  | .ldAB => completes_finish (effect_writeR8 _ _ _)
  | .ldAC => completes_finish (effect_writeR8 _ _ _)
  | .ldAD => completes_finish (effect_writeR8 _ _ _)
  | .ldAE => completes_finish (effect_writeR8 _ _ _)
  | .ldAH => completes_finish (effect_writeR8 _ _ _)
  | .ldAL => completes_finish (effect_writeR8 _ _ _)
  | .ldAAtHl => completes_finish (effect_writeR8 _ _ _)
  | .ldAA => completes_finish (effect_writeR8 _ _ _)
  | .addAB => completes_finish (effect_aluAcc _ _ _)
  | .addAC => completes_finish (effect_aluAcc _ _ _)
  | .addAD => completes_finish (effect_aluAcc _ _ _)
  | .addAE => completes_finish (effect_aluAcc _ _ _)
  | .addAH => completes_finish (effect_aluAcc _ _ _)
  | .addAL => completes_finish (effect_aluAcc _ _ _)
  | .addAAtHl => completes_finish (effect_aluAcc _ _ _)
  | .addAA => completes_finish (effect_aluAcc _ _ _)
  | .adcAB => completes_finish (effect_aluAcc _ _ _)
  | .adcAC => completes_finish (effect_aluAcc _ _ _)
  | .adcAD => completes_finish (effect_aluAcc _ _ _)
  | .adcAE => completes_finish (effect_aluAcc _ _ _)
  | .adcAH => completes_finish (effect_aluAcc _ _ _)
  | .adcAL => completes_finish (effect_aluAcc _ _ _)
  | .adcAAtHl => completes_finish (effect_aluAcc _ _ _)
  | .adcAA => completes_finish (effect_aluAcc _ _ _)
  | .subAB => completes_finish (effect_aluAcc _ _ _)
  | .subAC => completes_finish (effect_aluAcc _ _ _)
  | .subAD => completes_finish (effect_aluAcc _ _ _)
  | .subAE => completes_finish (effect_aluAcc _ _ _)
  | .subAH => completes_finish (effect_aluAcc _ _ _)
  | .subAL => completes_finish (effect_aluAcc _ _ _)
  | .subAAtHl => completes_finish (effect_aluAcc _ _ _)
  | .subAA => completes_finish (effect_aluAcc _ _ _)
  | .sbcAB => completes_finish (effect_aluAcc _ _ _)
  | .sbcAC => completes_finish (effect_aluAcc _ _ _)
  | .sbcAD => completes_finish (effect_aluAcc _ _ _)
  | .sbcAE => completes_finish (effect_aluAcc _ _ _)
  | .sbcAH => completes_finish (effect_aluAcc _ _ _)
  | .sbcAL => completes_finish (effect_aluAcc _ _ _)
  | .sbcAAtHl => completes_finish (effect_aluAcc _ _ _)
  | .sbcAA => completes_finish (effect_aluAcc _ _ _)
  | .andAB => completes_finish (effect_aluAcc _ _ _)
  | .andAC => completes_finish (effect_aluAcc _ _ _)
  | .andAD => completes_finish (effect_aluAcc _ _ _)
  | .andAE => completes_finish (effect_aluAcc _ _ _)
  | .andAH => completes_finish (effect_aluAcc _ _ _)
  | .andAL => completes_finish (effect_aluAcc _ _ _)
  | .andAAtHl => completes_finish (effect_aluAcc _ _ _)
  | .andAA => completes_finish (effect_aluAcc _ _ _)
  | .xorAB => completes_finish (effect_aluAcc _ _ _)
  | .xorAC => completes_finish (effect_aluAcc _ _ _)
  | .xorAD => completes_finish (effect_aluAcc _ _ _)
  | .xorAE => completes_finish (effect_aluAcc _ _ _)
  | .xorAH => completes_finish (effect_aluAcc _ _ _)
  | .xorAL => completes_finish (effect_aluAcc _ _ _)
  | .xorAAtHl => completes_finish (effect_aluAcc _ _ _)
  | .xorAA => completes_finish (effect_aluAcc _ _ _)
  | .orAB => completes_finish (effect_aluAcc _ _ _)
  | .orAC => completes_finish (effect_aluAcc _ _ _)
  | .orAD => completes_finish (effect_aluAcc _ _ _)
  | .orAE => completes_finish (effect_aluAcc _ _ _)
  | .orAH => completes_finish (effect_aluAcc _ _ _)
  | .orAL => completes_finish (effect_aluAcc _ _ _)
  | .orAAtHl => completes_finish (effect_aluAcc _ _ _)
  | .orAA => completes_finish (effect_aluAcc _ _ _)
  | .cpAB => completes_finish (effect_aluAcc _ _ _)
  | .cpAC => completes_finish (effect_aluAcc _ _ _)
  | .cpAD => completes_finish (effect_aluAcc _ _ _)
  | .cpAE => completes_finish (effect_aluAcc _ _ _)
  | .cpAH => completes_finish (effect_aluAcc _ _ _)
  | .cpAL => completes_finish (effect_aluAcc _ _ _)
  | .cpAAtHl => completes_finish (effect_aluAcc _ _ _)
  | .cpAA => completes_finish (effect_aluAcc _ _ _)
  | .retNz => completes_branch (effect_popPc _)
  | .popBc => completes_finish (effect_popPair _ _)
  | .jpNzN16 n => completes_branch (f := fun t => t.setPc n) (effect_cpu _ _ id)
  | .jpN16 _ => completes_finish (effect_cpu _ _ id)
  | .callNzN16 _ => completes_branch (effect_call _ _)
  | .pushBc => completes_finish (effect_push _ _)
  | .addAN8 _ => completes_finish (effect_aluAcc _ _ _)
  | .rst00 => completes_finish (effect_call _ _)
  | .retZ => completes_branch (effect_popPc _)
  | .ret => completes_finish (effect_popPc _)
  | .jpZN16 n => completes_branch (f := fun t => t.setPc n) (effect_cpu _ _ id)
  | .prefixCb _ => completes_runCb _ _
  | .callZN16 _ => completes_branch (effect_call _ _)
  | .callN16 _ => completes_finish (effect_call _ _)
  | .adcAN8 _ => completes_finish (effect_aluAcc _ _ _)
  | .rst08 => completes_finish (effect_call _ _)
  | .retNc => completes_branch (effect_popPc _)
  | .popDe => completes_finish (effect_popPair _ _)
  | .jpNcN16 n => completes_branch (f := fun t => t.setPc n) (effect_cpu _ _ id)
  | .illegalD3 => completes_finish (effect_cpu _ _ id)
  | .callNcN16 _ => completes_branch (effect_call _ _)
  | .pushDe => completes_finish (effect_push _ _)
  | .subAN8 _ => completes_finish (effect_aluAcc _ _ _)
  | .rst10 => completes_finish (effect_call _ _)
  | .retC => completes_branch (effect_popPc _)
  | .reti => completes_finish (effect_returnInterrupt _)
  | .jpCN16 n => completes_branch (f := fun t => t.setPc n) (effect_cpu _ _ id)
  | .illegalDB => completes_finish (effect_cpu _ _ id)
  | .callCN16 _ => completes_branch (effect_call _ _)
  | .illegalDD => completes_finish (effect_cpu _ _ id)
  | .sbcAN8 _ => completes_finish (effect_aluAcc _ _ _)
  | .rst18 => completes_finish (effect_call _ _)
  | .ldhAtN8A _ => completes_finish (effect_write _ _ _)
  | .popHl => completes_finish (effect_popPair _ _)
  | .ldhAtCA => completes_finish (effect_write _ _ _)
  | .illegalE3 => completes_finish (effect_cpu _ _ id)
  | .illegalE4 => completes_finish (effect_cpu _ _ id)
  | .pushHl => completes_finish (effect_push _ _)
  | .andAN8 _ => completes_finish (effect_aluAcc _ _ _)
  | .rst20 => completes_finish (effect_call _ _)
  | .addSpE8 _ => completes_finish (effect_cpu _ _ (low_setFlags _ _))
  | .jpHl => completes_finish (effect_cpu _ _ id)
  | .ldAtN16A _ => completes_finish (effect_write _ _ _)
  | .illegalEB => completes_finish (effect_cpu _ _ id)
  | .illegalEC => completes_finish (effect_cpu _ _ id)
  | .illegalED => completes_finish (effect_cpu _ _ id)
  | .xorAN8 _ => completes_finish (effect_aluAcc _ _ _)
  | .rst28 => completes_finish (effect_call _ _)
  | .ldhAAtN8 _ => completes_finish (effect_cpu _ _ id)
  | .popAf => completes_finish (effect_popPair _ _)
  | .ldhAAtC => completes_finish (effect_cpu _ _ id)
  | .di => completes_finish (effect_cpu _ _ id)
  | .illegalF4 => completes_finish (effect_cpu _ _ id)
  | .pushAf => completes_finish (effect_push _ _)
  | .orAN8 _ => completes_finish (effect_aluAcc _ _ _)
  | .rst30 => completes_finish (effect_call _ _)
  | .ldHlSpE8 _ => completes_finish (effect_cpu _ _ (low_setFlags _ _))
  | .ldSpHl => completes_finish (effect_cpu _ _ id)
  | .ldAAtN16 _ => completes_finish (effect_cpu _ _ id)
  | .ei => completes_finish (effect_cpu _ _ id)
  | .illegalFC => completes_finish (effect_cpu _ _ id)
  | .illegalFD => completes_finish (effect_cpu _ _ id)
  | .cpAN8 _ => completes_finish (effect_aluAcc _ _ _)
  | .rst38 => completes_finish (effect_call _ _)
  | .rlcB => completes_finish (effect_updateR8 _ _ _)
  | .rlcC => completes_finish (effect_updateR8 _ _ _)
  | .rlcD => completes_finish (effect_updateR8 _ _ _)
  | .rlcE => completes_finish (effect_updateR8 _ _ _)
  | .rlcH => completes_finish (effect_updateR8 _ _ _)
  | .rlcL => completes_finish (effect_updateR8 _ _ _)
  | .rlcAtHl => completes_finish (effect_updateR8 _ _ _)
  | .rlcA => completes_finish (effect_updateR8 _ _ _)
  | .rrcB => completes_finish (effect_updateR8 _ _ _)
  | .rrcC => completes_finish (effect_updateR8 _ _ _)
  | .rrcD => completes_finish (effect_updateR8 _ _ _)
  | .rrcE => completes_finish (effect_updateR8 _ _ _)
  | .rrcH => completes_finish (effect_updateR8 _ _ _)
  | .rrcL => completes_finish (effect_updateR8 _ _ _)
  | .rrcAtHl => completes_finish (effect_updateR8 _ _ _)
  | .rrcA => completes_finish (effect_updateR8 _ _ _)
  | .rlB => completes_finish (effect_updateR8 _ _ _)
  | .rlC => completes_finish (effect_updateR8 _ _ _)
  | .rlD => completes_finish (effect_updateR8 _ _ _)
  | .rlE => completes_finish (effect_updateR8 _ _ _)
  | .rlH => completes_finish (effect_updateR8 _ _ _)
  | .rlL => completes_finish (effect_updateR8 _ _ _)
  | .rlAtHl => completes_finish (effect_updateR8 _ _ _)
  | .rlA => completes_finish (effect_updateR8 _ _ _)
  | .rrB => completes_finish (effect_updateR8 _ _ _)
  | .rrC => completes_finish (effect_updateR8 _ _ _)
  | .rrD => completes_finish (effect_updateR8 _ _ _)
  | .rrE => completes_finish (effect_updateR8 _ _ _)
  | .rrH => completes_finish (effect_updateR8 _ _ _)
  | .rrL => completes_finish (effect_updateR8 _ _ _)
  | .rrAtHl => completes_finish (effect_updateR8 _ _ _)
  | .rrA => completes_finish (effect_updateR8 _ _ _)
  | .slaB => completes_finish (effect_updateR8 _ _ _)
  | .slaC => completes_finish (effect_updateR8 _ _ _)
  | .slaD => completes_finish (effect_updateR8 _ _ _)
  | .slaE => completes_finish (effect_updateR8 _ _ _)
  | .slaH => completes_finish (effect_updateR8 _ _ _)
  | .slaL => completes_finish (effect_updateR8 _ _ _)
  | .slaAtHl => completes_finish (effect_updateR8 _ _ _)
  | .slaA => completes_finish (effect_updateR8 _ _ _)
  | .sraB => completes_finish (effect_updateR8 _ _ _)
  | .sraC => completes_finish (effect_updateR8 _ _ _)
  | .sraD => completes_finish (effect_updateR8 _ _ _)
  | .sraE => completes_finish (effect_updateR8 _ _ _)
  | .sraH => completes_finish (effect_updateR8 _ _ _)
  | .sraL => completes_finish (effect_updateR8 _ _ _)
  | .sraAtHl => completes_finish (effect_updateR8 _ _ _)
  | .sraA => completes_finish (effect_updateR8 _ _ _)
  | .swapB => completes_finish (effect_updateR8 _ _ _)
  | .swapC => completes_finish (effect_updateR8 _ _ _)
  | .swapD => completes_finish (effect_updateR8 _ _ _)
  | .swapE => completes_finish (effect_updateR8 _ _ _)
  | .swapH => completes_finish (effect_updateR8 _ _ _)
  | .swapL => completes_finish (effect_updateR8 _ _ _)
  | .swapAtHl => completes_finish (effect_updateR8 _ _ _)
  | .swapA => completes_finish (effect_updateR8 _ _ _)
  | .srlB => completes_finish (effect_updateR8 _ _ _)
  | .srlC => completes_finish (effect_updateR8 _ _ _)
  | .srlD => completes_finish (effect_updateR8 _ _ _)
  | .srlE => completes_finish (effect_updateR8 _ _ _)
  | .srlH => completes_finish (effect_updateR8 _ _ _)
  | .srlL => completes_finish (effect_updateR8 _ _ _)
  | .srlAtHl => completes_finish (effect_updateR8 _ _ _)
  | .srlA => completes_finish (effect_updateR8 _ _ _)
  | .bit0B => completes_finish (effect_cpu _ _ (low_setFlags _ _))
  | .bit0C => completes_finish (effect_cpu _ _ (low_setFlags _ _))
  | .bit0D => completes_finish (effect_cpu _ _ (low_setFlags _ _))
  | .bit0E => completes_finish (effect_cpu _ _ (low_setFlags _ _))
  | .bit0H => completes_finish (effect_cpu _ _ (low_setFlags _ _))
  | .bit0L => completes_finish (effect_cpu _ _ (low_setFlags _ _))
  | .bit0AtHl => completes_finish (effect_cpu _ _ (low_setFlags _ _))
  | .bit0A => completes_finish (effect_cpu _ _ (low_setFlags _ _))
  | .bit1B => completes_finish (effect_cpu _ _ (low_setFlags _ _))
  | .bit1C => completes_finish (effect_cpu _ _ (low_setFlags _ _))
  | .bit1D => completes_finish (effect_cpu _ _ (low_setFlags _ _))
  | .bit1E => completes_finish (effect_cpu _ _ (low_setFlags _ _))
  | .bit1H => completes_finish (effect_cpu _ _ (low_setFlags _ _))
  | .bit1L => completes_finish (effect_cpu _ _ (low_setFlags _ _))
  | .bit1AtHl => completes_finish (effect_cpu _ _ (low_setFlags _ _))
  | .bit1A => completes_finish (effect_cpu _ _ (low_setFlags _ _))
  | .bit2B => completes_finish (effect_cpu _ _ (low_setFlags _ _))
  | .bit2C => completes_finish (effect_cpu _ _ (low_setFlags _ _))
  | .bit2D => completes_finish (effect_cpu _ _ (low_setFlags _ _))
  | .bit2E => completes_finish (effect_cpu _ _ (low_setFlags _ _))
  | .bit2H => completes_finish (effect_cpu _ _ (low_setFlags _ _))
  | .bit2L => completes_finish (effect_cpu _ _ (low_setFlags _ _))
  | .bit2AtHl => completes_finish (effect_cpu _ _ (low_setFlags _ _))
  | .bit2A => completes_finish (effect_cpu _ _ (low_setFlags _ _))
  | .bit3B => completes_finish (effect_cpu _ _ (low_setFlags _ _))
  | .bit3C => completes_finish (effect_cpu _ _ (low_setFlags _ _))
  | .bit3D => completes_finish (effect_cpu _ _ (low_setFlags _ _))
  | .bit3E => completes_finish (effect_cpu _ _ (low_setFlags _ _))
  | .bit3H => completes_finish (effect_cpu _ _ (low_setFlags _ _))
  | .bit3L => completes_finish (effect_cpu _ _ (low_setFlags _ _))
  | .bit3AtHl => completes_finish (effect_cpu _ _ (low_setFlags _ _))
  | .bit3A => completes_finish (effect_cpu _ _ (low_setFlags _ _))
  | .bit4B => completes_finish (effect_cpu _ _ (low_setFlags _ _))
  | .bit4C => completes_finish (effect_cpu _ _ (low_setFlags _ _))
  | .bit4D => completes_finish (effect_cpu _ _ (low_setFlags _ _))
  | .bit4E => completes_finish (effect_cpu _ _ (low_setFlags _ _))
  | .bit4H => completes_finish (effect_cpu _ _ (low_setFlags _ _))
  | .bit4L => completes_finish (effect_cpu _ _ (low_setFlags _ _))
  | .bit4AtHl => completes_finish (effect_cpu _ _ (low_setFlags _ _))
  | .bit4A => completes_finish (effect_cpu _ _ (low_setFlags _ _))
  | .bit5B => completes_finish (effect_cpu _ _ (low_setFlags _ _))
  | .bit5C => completes_finish (effect_cpu _ _ (low_setFlags _ _))
  | .bit5D => completes_finish (effect_cpu _ _ (low_setFlags _ _))
  | .bit5E => completes_finish (effect_cpu _ _ (low_setFlags _ _))
  | .bit5H => completes_finish (effect_cpu _ _ (low_setFlags _ _))
  | .bit5L => completes_finish (effect_cpu _ _ (low_setFlags _ _))
  | .bit5AtHl => completes_finish (effect_cpu _ _ (low_setFlags _ _))
  | .bit5A => completes_finish (effect_cpu _ _ (low_setFlags _ _))
  | .bit6B => completes_finish (effect_cpu _ _ (low_setFlags _ _))
  | .bit6C => completes_finish (effect_cpu _ _ (low_setFlags _ _))
  | .bit6D => completes_finish (effect_cpu _ _ (low_setFlags _ _))
  | .bit6E => completes_finish (effect_cpu _ _ (low_setFlags _ _))
  | .bit6H => completes_finish (effect_cpu _ _ (low_setFlags _ _))
  | .bit6L => completes_finish (effect_cpu _ _ (low_setFlags _ _))
  | .bit6AtHl => completes_finish (effect_cpu _ _ (low_setFlags _ _))
  | .bit6A => completes_finish (effect_cpu _ _ (low_setFlags _ _))
  | .bit7B => completes_finish (effect_cpu _ _ (low_setFlags _ _))
  | .bit7C => completes_finish (effect_cpu _ _ (low_setFlags _ _))
  | .bit7D => completes_finish (effect_cpu _ _ (low_setFlags _ _))
  | .bit7E => completes_finish (effect_cpu _ _ (low_setFlags _ _))
  | .bit7H => completes_finish (effect_cpu _ _ (low_setFlags _ _))
  | .bit7L => completes_finish (effect_cpu _ _ (low_setFlags _ _))
  | .bit7AtHl => completes_finish (effect_cpu _ _ (low_setFlags _ _))
  | .bit7A => completes_finish (effect_cpu _ _ (low_setFlags _ _))
  | .res0B => completes_finish (effect_writeR8 _ _ _)
  | .res0C => completes_finish (effect_writeR8 _ _ _)
  | .res0D => completes_finish (effect_writeR8 _ _ _)
  | .res0E => completes_finish (effect_writeR8 _ _ _)
  | .res0H => completes_finish (effect_writeR8 _ _ _)
  | .res0L => completes_finish (effect_writeR8 _ _ _)
  | .res0AtHl => completes_finish (effect_writeR8 _ _ _)
  | .res0A => completes_finish (effect_writeR8 _ _ _)
  | .res1B => completes_finish (effect_writeR8 _ _ _)
  | .res1C => completes_finish (effect_writeR8 _ _ _)
  | .res1D => completes_finish (effect_writeR8 _ _ _)
  | .res1E => completes_finish (effect_writeR8 _ _ _)
  | .res1H => completes_finish (effect_writeR8 _ _ _)
  | .res1L => completes_finish (effect_writeR8 _ _ _)
  | .res1AtHl => completes_finish (effect_writeR8 _ _ _)
  | .res1A => completes_finish (effect_writeR8 _ _ _)
  | .res2B => completes_finish (effect_writeR8 _ _ _)
  | .res2C => completes_finish (effect_writeR8 _ _ _)
  | .res2D => completes_finish (effect_writeR8 _ _ _)
  | .res2E => completes_finish (effect_writeR8 _ _ _)
  | .res2H => completes_finish (effect_writeR8 _ _ _)
  | .res2L => completes_finish (effect_writeR8 _ _ _)
  | .res2AtHl => completes_finish (effect_writeR8 _ _ _)
  | .res2A => completes_finish (effect_writeR8 _ _ _)
  | .res3B => completes_finish (effect_writeR8 _ _ _)
  | .res3C => completes_finish (effect_writeR8 _ _ _)
  | .res3D => completes_finish (effect_writeR8 _ _ _)
  | .res3E => completes_finish (effect_writeR8 _ _ _)
  | .res3H => completes_finish (effect_writeR8 _ _ _)
  | .res3L => completes_finish (effect_writeR8 _ _ _)
  | .res3AtHl => completes_finish (effect_writeR8 _ _ _)
  | .res3A => completes_finish (effect_writeR8 _ _ _)
  | .res4B => completes_finish (effect_writeR8 _ _ _)
  | .res4C => completes_finish (effect_writeR8 _ _ _)
  | .res4D => completes_finish (effect_writeR8 _ _ _)
  | .res4E => completes_finish (effect_writeR8 _ _ _)
  | .res4H => completes_finish (effect_writeR8 _ _ _)
  | .res4L => completes_finish (effect_writeR8 _ _ _)
  | .res4AtHl => completes_finish (effect_writeR8 _ _ _)
  | .res4A => completes_finish (effect_writeR8 _ _ _)
  | .res5B => completes_finish (effect_writeR8 _ _ _)
  | .res5C => completes_finish (effect_writeR8 _ _ _)
  | .res5D => completes_finish (effect_writeR8 _ _ _)
  | .res5E => completes_finish (effect_writeR8 _ _ _)
  | .res5H => completes_finish (effect_writeR8 _ _ _)
  | .res5L => completes_finish (effect_writeR8 _ _ _)
  | .res5AtHl => completes_finish (effect_writeR8 _ _ _)
  | .res5A => completes_finish (effect_writeR8 _ _ _)
  | .res6B => completes_finish (effect_writeR8 _ _ _)
  | .res6C => completes_finish (effect_writeR8 _ _ _)
  | .res6D => completes_finish (effect_writeR8 _ _ _)
  | .res6E => completes_finish (effect_writeR8 _ _ _)
  | .res6H => completes_finish (effect_writeR8 _ _ _)
  | .res6L => completes_finish (effect_writeR8 _ _ _)
  | .res6AtHl => completes_finish (effect_writeR8 _ _ _)
  | .res6A => completes_finish (effect_writeR8 _ _ _)
  | .res7B => completes_finish (effect_writeR8 _ _ _)
  | .res7C => completes_finish (effect_writeR8 _ _ _)
  | .res7D => completes_finish (effect_writeR8 _ _ _)
  | .res7E => completes_finish (effect_writeR8 _ _ _)
  | .res7H => completes_finish (effect_writeR8 _ _ _)
  | .res7L => completes_finish (effect_writeR8 _ _ _)
  | .res7AtHl => completes_finish (effect_writeR8 _ _ _)
  | .res7A => completes_finish (effect_writeR8 _ _ _)
  | .set0B => completes_finish (effect_writeR8 _ _ _)
  | .set0C => completes_finish (effect_writeR8 _ _ _)
  | .set0D => completes_finish (effect_writeR8 _ _ _)
  | .set0E => completes_finish (effect_writeR8 _ _ _)
  | .set0H => completes_finish (effect_writeR8 _ _ _)
  | .set0L => completes_finish (effect_writeR8 _ _ _)
  | .set0AtHl => completes_finish (effect_writeR8 _ _ _)
  | .set0A => completes_finish (effect_writeR8 _ _ _)
  | .set1B => completes_finish (effect_writeR8 _ _ _)
  | .set1C => completes_finish (effect_writeR8 _ _ _)
  | .set1D => completes_finish (effect_writeR8 _ _ _)
  | .set1E => completes_finish (effect_writeR8 _ _ _)
  | .set1H => completes_finish (effect_writeR8 _ _ _)
  | .set1L => completes_finish (effect_writeR8 _ _ _)
  | .set1AtHl => completes_finish (effect_writeR8 _ _ _)
  | .set1A => completes_finish (effect_writeR8 _ _ _)
  | .set2B => completes_finish (effect_writeR8 _ _ _)
  | .set2C => completes_finish (effect_writeR8 _ _ _)
  | .set2D => completes_finish (effect_writeR8 _ _ _)
  | .set2E => completes_finish (effect_writeR8 _ _ _)
  | .set2H => completes_finish (effect_writeR8 _ _ _)
  | .set2L => completes_finish (effect_writeR8 _ _ _)
  | .set2AtHl => completes_finish (effect_writeR8 _ _ _)
  | .set2A => completes_finish (effect_writeR8 _ _ _)
  | .set3B => completes_finish (effect_writeR8 _ _ _)
  | .set3C => completes_finish (effect_writeR8 _ _ _)
  | .set3D => completes_finish (effect_writeR8 _ _ _)
  | .set3E => completes_finish (effect_writeR8 _ _ _)
  | .set3H => completes_finish (effect_writeR8 _ _ _)
  | .set3L => completes_finish (effect_writeR8 _ _ _)
  | .set3AtHl => completes_finish (effect_writeR8 _ _ _)
  | .set3A => completes_finish (effect_writeR8 _ _ _)
  | .set4B => completes_finish (effect_writeR8 _ _ _)
  | .set4C => completes_finish (effect_writeR8 _ _ _)
  | .set4D => completes_finish (effect_writeR8 _ _ _)
  | .set4E => completes_finish (effect_writeR8 _ _ _)
  | .set4H => completes_finish (effect_writeR8 _ _ _)
  | .set4L => completes_finish (effect_writeR8 _ _ _)
  | .set4AtHl => completes_finish (effect_writeR8 _ _ _)
  | .set4A => completes_finish (effect_writeR8 _ _ _)
  | .set5B => completes_finish (effect_writeR8 _ _ _)
  | .set5C => completes_finish (effect_writeR8 _ _ _)
  | .set5D => completes_finish (effect_writeR8 _ _ _)
  | .set5E => completes_finish (effect_writeR8 _ _ _)
  | .set5H => completes_finish (effect_writeR8 _ _ _)
  | .set5L => completes_finish (effect_writeR8 _ _ _)
  | .set5AtHl => completes_finish (effect_writeR8 _ _ _)
  | .set5A => completes_finish (effect_writeR8 _ _ _)
  | .set6B => completes_finish (effect_writeR8 _ _ _)
  | .set6C => completes_finish (effect_writeR8 _ _ _)
  | .set6D => completes_finish (effect_writeR8 _ _ _)
  | .set6E => completes_finish (effect_writeR8 _ _ _)
  | .set6H => completes_finish (effect_writeR8 _ _ _)
  | .set6L => completes_finish (effect_writeR8 _ _ _)
  | .set6AtHl => completes_finish (effect_writeR8 _ _ _)
  | .set6A => completes_finish (effect_writeR8 _ _ _)
  | .set7B => completes_finish (effect_writeR8 _ _ _)
  | .set7C => completes_finish (effect_writeR8 _ _ _)
  | .set7D => completes_finish (effect_writeR8 _ _ _)
  | .set7E => completes_finish (effect_writeR8 _ _ _)
  | .set7H => completes_finish (effect_writeR8 _ _ _)
  | .set7L => completes_finish (effect_writeR8 _ _ _)
  | .set7AtHl => completes_finish (effect_writeR8 _ _ _)
  | .set7A => completes_finish (effect_writeR8 _ _ _)

/-- STOP (R462). -/
theorem exec_stop (x : Byte) (s : State) :
    exec (.stop x) s = match s.stopMode with | .nop2 => finish 1 s | .refuse => .refused .stopRefused := rfl

/-- What any instruction can do: complete, or, STOP under `refuse`, refuse. -/
theorem exec_cases (i : Instr) (s : State) : Completes s (exec i s) ∨
    ((∃ x, i = .stop x) ∧ s.stopMode = .refuse ∧ exec i s = .refused .stopRefused) := by
  by_cases h : ∃ x, i = .stop x
  · obtain ⟨x, rfl⟩ := h
    rw [exec_stop]
    cases s.stopMode with
    | nop2 => exact .inl (completes_finish (effect_refl s))
    | refuse => exact .inr ⟨⟨x, rfl⟩, rfl, rfl⟩
  · exact .inl (exec_completes i s fun x e => h ⟨x, e⟩)

end Sys2Proof.Machine
end

