-- ==== Sys2Proof/Laws/Fetch.lean ====
section
/-! SUPPORT. What fetching an instruction does (Machine/Fetch.lean): the decoder's answer on the three bytes at PC, and PC
past the instruction. -/

namespace Sys2Proof.Machine

theorem instrLength_cases (b0 : Byte) : instrLength b0 = 1 ∨ instrLength b0 = 2 ∨ instrLength b0 = 3 := by
  unfold instrLength; split_ifs <;> simp

/-- Bytes past a one-byte instruction are not read into it (R200). -/
theorem decodeBytes_one (b0 b1 b2 : Byte) (h : instrLength b0 = 1) : decodeBytes b0 b1 b2 = decodeBytes b0 0 0 := by
  have key : ∀ n : Fin 256, decodeBytes (BitVec.ofFin n) b1 b2 = decodeBytes (BitVec.ofFin n) 0 0 ∨
      instrLength (BitVec.ofFin n) ≠ 1 := fun n => by
    fin_cases n <;> first | exact .inl rfl | exact .inr (by decide)
  exact (key b0.toFin).resolve_right (absurd h)

/-- Bytes past a two-byte instruction are not read into it (R200). -/
theorem decodeBytes_two (b0 b1 b2 : Byte) (h : instrLength b0 = 2) : decodeBytes b0 b1 b2 = decodeBytes b0 b1 0 := by
  have hm : b0.toNat ∈ twoByteOpcodes := by
    unfold instrLength at h
    split_ifs at h <;> first | assumption | omega
  have key : ∀ k ∈ twoByteOpcodes,
      decodeBytes (BitVec.ofNat 8 k) b1 b2 = decodeBytes (BitVec.ofNat 8 k) b1 0 := by
    simp only [twoByteOpcodes, List.forall_mem_cons, List.not_mem_nil, false_implies, implies_true, and_true]
    refine ⟨?_, ?_, ?_, ?_, ?_, ?_, ?_, ?_, ?_, ?_, ?_, ?_, ?_, ?_, ?_, ?_, ?_, ?_, ?_, ?_, ?_, ?_, ?_, ?_, ?_, ?_, ?_⟩ <;> rfl
  simpa using key b0.toNat hm

/-- A fetch decodes the bytes at PC and leaves PC past the instruction; nothing else changes (R255, R120). -/
theorem fetchInstr_eq (s : State) :
    fetchInstr s =
      (decodeBytes (memRead s s.cpu.pc) (memRead s (s.cpu.pc + 1)) (memRead s (s.cpu.pc + 2)),
        s.setPc (s.cpu.pc + BitVec.ofNat 16 (instrLength (memRead s s.cpu.pc)))) := by
  have e2 : s.cpu.pc + 1 + 1 = s.cpu.pc + 2 := by rw [BitVec.add_assoc]; rfl
  have e3 : s.cpu.pc + 2 + 1 = s.cpu.pc + 3 := by rw [BitVec.add_assoc]; rfl
  have p2 : ∀ v w, (s.setPc v).setPc w = s.setPc w := fun _ _ => rfl
  simp only [fetchInstr, fetch8]
  rcases instrLength_cases (memRead s s.cpu.pc) with h | h | h <;> rw [h]
  · simp only [decodeBytes_one _ _ _ h]; rfl
  · simp only [State.setPc_cpu, memRead_setPc, p2, e2]
    rw [decodeBytes_two _ _ (memRead s (s.cpu.pc + 2)) h]; rfl
  · simp only [State.setPc_cpu, memRead_setPc, p2, e2, e3]; rfl

end Sys2Proof.Machine
end

