-- ==== Sys2Proof/Laws/Frame.lean ====
section
/-! SUPPORT. Which reads a bus write leaves as they were (20_memory.md R123): all outside `StoreReaches`. -/

namespace Sys2Proof.Machine

open Sys2Proof.Safety

/-- The low bytes of the echo window's addresses (R105). -/
theorem toNat_sub_echo (a : Word) (h : 0xE000 ≤ a.toNat) : (a - 0x2000).toNat = a.toNat - 0x2000 := by
  have := a.isLt
  have e : (0x2000 : Word).toNat = 0x2000 := by decide
  rw [BitVec.toNat_sub, e]; omega

theorem unecho_toNat (a : Word) :
    (unecho a).toNat = if 0xE000 ≤ a.toNat ∧ a.toNat < 0xFE00 then a.toNat - 0x2000 else a.toNat := by
  unfold unecho; split_ifs with h
  · exact toNat_sub_echo a h.1
  · rfl

/-- A write to one I/O register leaves every other as it was. -/
theorem ioRead_ioWrite_other (s : State) (i j : Nat) (v : Byte) (h : j ≠ i) : ioRead (ioWrite s i v) j = ioRead s j := by
  by_cases hd : i = 0x46
  · subst hd
    obtain ⟨m, e, -, -⟩ := dmaCopy_cases { s with dma := v } v
    show ioRead (dmaCopy { s with dma := v } v) j = _
    rw [e]; unfold ioRead
    split <;> first | rfl | omega
  · unfold ioWrite
    split <;> first | (exfalso; omega) | skip
    all_goals (unfold ioRead; split)
    all_goals first | rfl | (exfalso; omega) | exact Memory.read_write_other _ _ _ _ h

/-- A write to the I/O block changes OAM through the DMA register alone (R117). -/
theorem ioWrite_oam (s : State) (i : Nat) (v : Byte) (h : i ≠ 0x46) : (ioWrite s i v).oam = s.oam := by
  unfold ioWrite; split <;> first | omega | rfl

/-- Two states read the same at an address where the stores that serve it agree. -/
theorem memRead_ext (s t : State) (b : Word)
    (h0 : b.toNat < 0x0100 → t.bootMapped = s.bootMapped ∧ t.bootRom = s.bootRom)
    (h1 : b.toNat < 0x8000 ∨ InCartRam b → ∀ k, b.toNat = k → cartRead t.cart k = cartRead s.cart k)
    (h2 : ∀ k < 0x2000, b.toNat = 0x8000 + k → t.vram.read k = s.vram.read k)
    (h3 : ∀ k < 0x2000, b.toNat = 0xC000 + k ∨ (b.toNat = 0xE000 + k ∧ b.toNat < 0xFE00) →
      t.wram.read k = s.wram.read k)
    (h5 : ∀ k < 0xA0, b.toNat = 0xFE00 + k → t.oam.read k = s.oam.read k)
    (h6 : ∀ k < 128, b.toNat = 0xFF00 + k → ioRead t k = ioRead s k)
    (h7 : ∀ k < 127, b.toNat = 0xFF80 + k → t.hram.read k = s.hram.read k)
    (h8 : b.toNat = 0xFFFF → t.ieReg = s.ieReg) : memRead t b = memRead s b := by
  have hb := b.isLt
  rcases (by omega : b.toNat < 0x0100 ∨ (0x0100 ≤ b.toNat ∧ b.toNat < 0x8000) ∨ (0x8000 ≤ b.toNat ∧ b.toNat < 0xA000) ∨
    (0xA000 ≤ b.toNat ∧ b.toNat < 0xC000) ∨ (0xC000 ≤ b.toNat ∧ b.toNat < 0xE000) ∨
    (0xE000 ≤ b.toNat ∧ b.toNat < 0xFE00) ∨ (0xFE00 ≤ b.toNat ∧ b.toNat < 0xFEA0) ∨
    (0xFEA0 ≤ b.toNat ∧ b.toNat < 0xFF00) ∨ (0xFF00 ≤ b.toNat ∧ b.toNat < 0xFF80) ∨
    (0xFF80 ≤ b.toNat ∧ b.toNat < 0xFFFF) ∨ b.toNat = 0xFFFF)
    with x | ⟨x, y⟩ | ⟨x, y⟩ | ⟨x, y⟩ | ⟨x, y⟩ | ⟨x, y⟩ | ⟨x, y⟩ | ⟨x, y⟩ | ⟨x, y⟩ | ⟨x, y⟩ | x
  · rw [memRead_low _ _ x, memRead_low _ _ x, (h0 x).1, (h0 x).2, h1 (.inl (Nat.lt_trans x (by decide))) _ rfl]
  · rw [memRead_rom _ _ x y, memRead_rom _ _ x y, h1 (.inl y) _ rfl]
  · rw [memRead_vram _ _ x y, memRead_vram _ _ x y, h2 _ (by omega) (by omega)]
  · rw [memRead_cartRam _ _ x y, memRead_cartRam _ _ x y, h1 (.inr ⟨x, y⟩) _ rfl]
  · rw [memRead_wram _ _ x y, memRead_wram _ _ x y, h3 _ (by omega) (by omega)]
  · rw [memRead_echo _ _ x y, memRead_echo _ _ x y, h3 _ (by omega) (by omega)]
  · rw [memRead_oam _ _ x y, memRead_oam _ _ x y, h5 _ (by omega) (by omega)]
  · rw [memRead_gap _ _ x y, memRead_gap _ _ x y]
  · rw [memRead_io _ _ x y, memRead_io _ _ x y, h6 _ (by omega) (by omega)]
  · rw [memRead_hram _ _ x y, memRead_hram _ _ x y, h7 _ (by omega) (by omega)]
  · obtain rfl : b = 0xFFFF := BitVec.eq_of_toNat_eq x
    rw [memRead_ie, memRead_ie, h8 x]

/-- A read outside what a store reaches is as it was before the store. -/
theorem memRead_memWrite_other (s : State) (a b : Word) (v : Byte)
    (h : ¬ StoreReaches (mirrorsRam s.cart.mbc) a b) : memRead (memWrite s a v) b = memRead s b := by
  have ha := a.isLt
  have hb := b.isLt
  have hne : a.toNat = b.toNat → b = a := fun e => BitVec.eq_of_toNat_eq e.symm
  have d1 : (0xFF46 : Word).toNat = 0xFF46 := by decide
  have d2 : (0xFF50 : Word).toNat = 0xFF50 := by decide
  have n1 : a.toNat ≠ 0xFF46 → a ≠ 0xFF46 := fun k e => k (by rw [e, d1])
  have n2 : a.toNat ≠ 0xFF50 → a ≠ 0xFF50 := fun k e => k (by rw [e, d2])
  unfold StoreReaches InCartRam at h
  rcases (by omega : (a.toNat < 0x8000) ∨ (0x8000 ≤ a.toNat ∧ a.toNat < 0xA000) ∨
    (0xA000 ≤ a.toNat ∧ a.toNat < 0xC000) ∨ (0xC000 ≤ a.toNat ∧ a.toNat < 0xFE00) ∨
    (0xFE00 ≤ a.toNat ∧ a.toNat < 0xFEA0) ∨ (0xFEA0 ≤ a.toNat ∧ a.toNat < 0xFF00) ∨
    (0xFF00 ≤ a.toNat ∧ a.toNat < 0xFF80) ∨ (0xFF80 ≤ a.toNat ∧ a.toNat < 0xFFFF) ∨ a.toNat = 0xFFFF)
    with x | ⟨x, y⟩ | ⟨x, y⟩ | ⟨x, y⟩ | ⟨x, y⟩ | ⟨x, y⟩ | ⟨x, y⟩ | ⟨x, y⟩ | x
  · rw [if_pos x] at h
    rw [memWrite_rom _ _ _ x]
    exact memRead_ext _ _ _ (fun _ => ⟨rfl, rfl⟩) (fun e => absurd e h) (fun _ _ _ => rfl) (fun _ _ _ => rfl)
      (fun _ _ _ => rfl) (fun _ _ _ => rfl) (fun _ _ _ => rfl) (fun _ => rfl)
  · rw [memWrite_vram _ _ _ x y]
    rw [if_neg (by omega), if_neg (by omega), if_neg (n1 (by omega)), if_neg (n2 (by omega))] at h
    have hn : a.toNat ≠ b.toNat := fun e => by rw [hne e] at h; exact h rfl
    refine memRead_ext _ _ _ (fun _ => ⟨rfl, rfl⟩) (fun _ _ _ => rfl) (fun k _ e => ?_) (fun _ _ _ => rfl)
      (fun _ _ _ => rfl) (fun _ _ _ => rfl) (fun _ _ _ => rfl) (fun _ => rfl)
    rw [Memory.read_write_other]; omega
  · rw [memWrite_cartRam _ _ _ x y]
    rw [if_neg (by omega), if_pos ⟨x, y⟩] at h
    refine memRead_ext _ _ _ (fun _ => ⟨rfl, rfl⟩) (fun e k hk => ?_) (fun _ _ _ => rfl) (fun _ _ _ => rfl)
      (fun _ _ _ => rfl) (fun _ _ _ => rfl) (fun _ _ _ => rfl) (fun _ => rfl)
    subst hk
    rcases e with e | e
    · exact cartRead_write_rom _ _ _ _ (by omega) e
    · exact cartRead_write_other _ _ _ _ x e.1 (fun k => h ⟨e, .inl (hne k.symm)⟩) (fun k l => h ⟨e, .inr ⟨k, l⟩⟩)
  · rw [if_neg (by omega), if_neg (by omega), if_neg (n1 (by omega)), if_neg (n2 (by omega))] at h
    have h : (unecho b).toNat ≠ (unecho a).toNat := fun e => h (BitVec.eq_of_toNat_eq e)
    rw [unecho_toNat, unecho_toNat] at h
    rcases (by omega : a.toNat < 0xE000 ∨ 0xE000 ≤ a.toNat) with z | z
    · rw [memWrite_wram _ _ _ x z]
      refine memRead_ext _ _ _ (fun _ => ⟨rfl, rfl⟩) (fun _ _ _ => rfl) (fun _ _ _ => rfl) (fun k q e => ?_)
        (fun _ _ _ => rfl) (fun _ _ _ => rfl) (fun _ _ _ => rfl) (fun _ => rfl)
      rw [Memory.read_write_other]; split_ifs at h <;> omega
    · rw [memWrite_echo _ _ _ z y]
      refine memRead_ext _ _ _ (fun _ => ⟨rfl, rfl⟩) (fun _ _ _ => rfl) (fun _ _ _ => rfl) (fun k q e => ?_)
        (fun _ _ _ => rfl) (fun _ _ _ => rfl) (fun _ _ _ => rfl) (fun _ => rfl)
      rw [Memory.read_write_other]; split_ifs at h <;> omega
  · rw [memWrite_oam _ _ _ x y]
    rw [if_neg (by omega), if_neg (by omega), if_neg (n1 (by omega)), if_neg (n2 (by omega))] at h
    have hn : a.toNat ≠ b.toNat := fun e => by rw [hne e] at h; exact h rfl
    refine memRead_ext _ _ _ (fun _ => ⟨rfl, rfl⟩) (fun _ _ _ => rfl) (fun _ _ _ => rfl) (fun _ _ _ => rfl)
      (fun k _ e => ?_) (fun _ _ _ => rfl) (fun _ _ _ => rfl) (fun _ => rfl)
    rw [Memory.read_write_other]; omega
  · rw [memWrite_gap _ _ _ x y]
  · rw [memWrite_io _ _ _ x y]
    rw [if_neg (by omega), if_neg (by omega)] at h
    obtain ⟨i, hi⟩ : ∃ i, a.toNat - 0xFF00 = i := ⟨_, rfl⟩
    rw [hi]
    have hn : a.toNat ≠ b.toNat := fun e => by
      rw [hne e] at h
      split_ifs at h <;> first | exact h (.inl rfl) | exact h rfl
    refine memRead_ext _ _ _ (fun p => ⟨?_, by simp⟩) (fun _ => by simp) (fun _ _ => by simp) (fun _ _ => by simp)
      (fun k q e => ?_) (fun _ _ _ => ioRead_ioWrite_other _ _ _ _ (by omega)) (fun _ _ => by simp) (fun _ => by simp)
    · rw [ioWrite_bootMapped]
      by_cases e : i = 0x50
      · exfalso
        have : a = 0xFF50 := BitVec.eq_of_toNat_eq (by rw [d2]; omega)
        rw [if_neg (n1 (by omega)), if_pos this] at h
        exact h (.inr p)
      · simp [e]
    · rw [ioWrite_oam]
      intro z
      have : a = 0xFF46 := BitVec.eq_of_toNat_eq (by rw [d1]; omega)
      rw [if_pos this] at h
      exact h (.inr (by omega))
  · rw [memWrite_hram _ _ _ x y]
    rw [if_neg (by omega), if_neg (by omega), if_neg (n1 (by omega)), if_neg (n2 (by omega))] at h
    have hn : a.toNat ≠ b.toNat := fun e => by rw [hne e] at h; exact h rfl
    refine memRead_ext _ _ _ (fun _ => ⟨rfl, rfl⟩) (fun _ _ _ => rfl) (fun _ _ _ => rfl) (fun _ _ _ => rfl)
      (fun _ _ _ => rfl) (fun _ _ _ => rfl) (fun k _ e => ?_) (fun _ => rfl)
    rw [Memory.read_write_other]; omega
  · rw [if_neg (by omega), if_neg (by omega), if_neg (n1 (by omega)), if_neg (n2 (by omega))] at h
    have hn : b.toNat ≠ 0xFFFF := fun e => by rw [hne (x.trans e.symm)] at h; exact h rfl
    obtain rfl : a = 0xFFFF := BitVec.eq_of_toNat_eq x
    rw [memWrite_ie]
    exact memRead_ext _ _ _ (fun _ => ⟨rfl, rfl⟩) (fun _ _ _ => rfl) (fun _ _ _ => rfl) (fun _ _ _ => rfl)
      (fun _ _ _ => rfl) (fun _ _ _ => rfl) (fun _ _ _ => rfl) (fun e => absurd e hn)

end Sys2Proof.Machine
end

