-- ==== Sys2Proof/Laws/Invariant.lean ====
section
/-! SUPPORT. The shared operations keep the invariant of Safety.lean: each is proved once, for every caller. -/

namespace Sys2Proof.Machine

open Sys2Proof.Safety

/-- The invariant says nothing of the CPU but its flag byte. -/
theorem MachineInv_setCpu (s : State) (k : Cpu) (h : MachineInv s) (hf : k.f &&& 0x0F = 0) : MachineInv (s.setCpu k) :=
  ⟨hf, h.p1, ⟨h.mem.bootRom, h.mem.vram, h.mem.wram, h.mem.oam, h.mem.io, h.mem.hram⟩, h.cart, h.ppu, h.timer⟩

theorem MachineInv_withCycles (s : State) (n : Nat) (h : MachineInv s) : MachineInv { s with cycles := n } :=
  ⟨h.flags, h.p1, ⟨h.mem.bootRom, h.mem.vram, h.mem.wram, h.mem.oam, h.mem.io, h.mem.hram⟩, h.cart, h.ppu, h.timer⟩

theorem MachineInv_withCpuCycles (s : State) (k : Cpu) (n : Nat) (h : MachineInv s) (hf : k.f &&& 0x0F = 0) :
    MachineInv { s with cpu := k, cycles := n } := MachineInv_withCycles _ n (MachineInv_setCpu s k h hf)

theorem MachineInv_withIf (s : State) (v : Byte) (h : MachineInv s) : MachineInv { s with ifReg := v } :=
  ⟨h.flags, h.p1, ⟨h.mem.bootRom, h.mem.vram, h.mem.wram, h.mem.oam, h.mem.io, h.mem.hram⟩, h.cart, h.ppu, h.timer⟩

theorem MachineInv_withPpu (s : State) (p : Ppu) (h : MachineInv s) (hp : PpuInv p) : MachineInv { s with ppu := p } :=
  ⟨h.flags, h.p1, ⟨h.mem.bootRom, h.mem.vram, h.mem.wram, h.mem.oam, h.mem.io, h.mem.hram⟩, h.cart, hp, h.timer⟩

theorem MachineInv_withTimer (s : State) (t : Timer) (h : MachineInv s) (ht : TimerInv t) : MachineInv { s with timer := t } :=
  ⟨h.flags, h.p1, ⟨h.mem.bootRom, h.mem.vram, h.mem.wram, h.mem.oam, h.mem.io, h.mem.hram⟩, h.cart, h.ppu, ht⟩

theorem MachineInv_withCart (s : State) (c : Cart) (h : MachineInv s) (hc : CartInv c) : MachineInv { s with cart := c } :=
  ⟨h.flags, h.p1, ⟨h.mem.bootRom, h.mem.vram, h.mem.wram, h.mem.oam, h.mem.io, h.mem.hram⟩, hc, h.ppu, h.timer⟩

theorem MachineInv_withOam (s : State) (m : Memory) (h : MachineInv s) (hm : m.wf ∧ m.within 160) : MachineInv { s with oam := m } :=
  ⟨h.flags, h.p1, ⟨h.mem.bootRom, h.mem.vram, h.mem.wram, hm, h.mem.io, h.mem.hram⟩, h.cart, h.ppu, h.timer⟩

theorem dmaCopy_inv (s : State) (v : Byte) (h : MachineInv s) : MachineInv (dmaCopy s v) := by
  obtain ⟨m, e, hw, hr⟩ := dmaCopy_cases s v
  rw [e]
  exact MachineInv_withOam s m h ⟨hw h.mem.oam.1, hr h.mem.oam.2⟩

/-- A write to the I/O block keeps the invariant. -/
theorem ioWrite_inv (s : State) (i : Nat) (v : Byte) (hi : i < 128) (h : MachineInv s) : MachineInv (ioWrite s i v) := by
  have hs : ∀ (x : Byte) (y : Byte) (z : Byte) (d : Byte) (o : Byte) (b : Bool),
      MachineInv { s with sb := x, sc := y, ifReg := z, dma := d, bootOff := o, bootMapped := b } := fun _ _ _ _ _ _ =>
    ⟨h.flags, h.p1, ⟨h.mem.bootRom, h.mem.vram, h.mem.wram, h.mem.oam, h.mem.io, h.mem.hram⟩, h.cart, h.ppu, h.timer⟩
  have hp : ∀ a b c d e f g j k : Byte, MachineInv { s with ppu := { s.ppu with
      lcdc := a, scy := b, scx := c, lyc := d, bgp := e, obp0 := f, obp1 := g, wy := j, wx := k } } :=
    fun _ _ _ _ _ _ _ _ _ => MachineInv_withPpu s _ h
      ⟨h.ppu.position, h.ppu.statMode, h.ppu.spriteCount, h.ppu.spriteRange, h.ppu.spriteOrder, h.ppu.rows,
        h.ppu.rowLength, h.ppu.indexLength⟩
  have ht : ∀ a b c d : Byte, MachineInv { s with timer := { s.timer with div := a, tima := b, tma := c, tac := d } } :=
    fun _ _ _ _ => MachineInv_withTimer s _ h ⟨h.timer.divCounter, h.timer.timaCounter⟩
  unfold ioWrite
  split
  · exact ⟨h.flags, writeP1_masked s.joypad v, ⟨h.mem.bootRom, h.mem.vram, h.mem.wram, h.mem.oam, h.mem.io, h.mem.hram⟩,
      h.cart, h.ppu, h.timer⟩
  · exact hs ..
  · exact hs ..
  · exact ht ..
  · exact ht ..
  · exact ht ..
  · exact ht ..
  · exact hs ..
  · exact hp ..
  · exact MachineInv_withPpu s _ h (writeStat_inv s.ppu v h.ppu)
  · exact hp ..
  · exact hp ..
  · exact h
  · exact hp ..
  · exact dmaCopy_inv _ _ (hs ..)
  · exact hp ..
  · exact hp ..
  · exact hp ..
  · exact hp ..
  · exact hp ..
  · exact hs ..
  · exact ⟨h.flags, h.p1, ⟨h.mem.bootRom, h.mem.vram, h.mem.wram, h.mem.oam,
      ⟨Memory.write_wf _ _ _ h.mem.io.1, Memory.write_within _ _ _ _ h.mem.io.2 hi⟩, h.mem.hram⟩, h.cart, h.ppu, h.timer⟩

/-- A bus write keeps the invariant. -/
theorem memWrite_inv (s : State) (a : Word) (v : Byte) (h : MachineInv s) : MachineInv (memWrite s a v) := by
  have ha := a.isLt
  simp only [memWrite]
  split_ifs
  · exact MachineInv_withCart s _ h (cartWrite_inv _ _ _ h.cart)
  · exact ⟨h.flags, h.p1, ⟨h.mem.bootRom, ⟨Memory.write_wf _ _ _ h.mem.vram.1,
      Memory.write_within _ _ _ _ h.mem.vram.2 (by omega)⟩, h.mem.wram, h.mem.oam, h.mem.io, h.mem.hram⟩,
      h.cart, h.ppu, h.timer⟩
  · exact MachineInv_withCart s _ h (cartWrite_inv _ _ _ h.cart)
  · exact ⟨h.flags, h.p1, ⟨h.mem.bootRom, h.mem.vram, ⟨Memory.write_wf _ _ _ h.mem.wram.1,
      Memory.write_within _ _ _ _ h.mem.wram.2 (by omega)⟩, h.mem.oam, h.mem.io, h.mem.hram⟩, h.cart, h.ppu, h.timer⟩
  · exact ⟨h.flags, h.p1, ⟨h.mem.bootRom, h.mem.vram, ⟨Memory.write_wf _ _ _ h.mem.wram.1,
      Memory.write_within _ _ _ _ h.mem.wram.2 (by omega)⟩, h.mem.oam, h.mem.io, h.mem.hram⟩, h.cart, h.ppu, h.timer⟩
  · exact MachineInv_withOam s _ h ⟨Memory.write_wf _ _ _ h.mem.oam.1, Memory.write_within _ _ _ _ h.mem.oam.2 (by omega)⟩
  · exact h
  · exact ioWrite_inv _ _ _ (by omega) h
  · exact ⟨h.flags, h.p1, ⟨h.mem.bootRom, h.mem.vram, h.mem.wram, h.mem.oam, h.mem.io, ⟨Memory.write_wf _ _ _ h.mem.hram.1,
      Memory.write_within _ _ _ _ h.mem.hram.2 (by omega)⟩⟩, h.cart, h.ppu, h.timer⟩
  · exact ⟨h.flags, h.p1, ⟨h.mem.bootRom, h.mem.vram, h.mem.wram, h.mem.oam, h.mem.io, h.mem.hram⟩,
      h.cart, h.ppu, h.timer⟩

theorem push16_inv (s : State) (v : Word) (h : MachineInv s) : MachineInv (push16 s v) := by
  rw [push16_eq]
  exact MachineInv_setCpu _ _ (memWrite_inv _ _ _ (memWrite_inv _ _ _ h)) h.flags

theorem dispatch_inv (s : State) (k : Nat) (h : MachineInv s) : MachineInv (dispatch s k) := by
  rw [dispatch_eq]
  exact MachineInv_withCpuCycles _ _ 5 (memWrite_inv _ _ _ (memWrite_inv _ _ _ (MachineInv_withIf s _ h))) h.flags

theorem writeR8_inv (s : State) (r : R8) (v : Byte) (h : MachineInv s) : MachineInv (writeR8 s r v) := by
  cases r with
  | reg r => exact MachineInv_setCpu s _ h (by simpa using h.flags)
  | atHl => exact memWrite_inv s _ v h

theorem updateR8_inv (r : R8) (t : Byte × Flags) (s : State) (h : MachineInv s) : MachineInv (updateR8 r t s) :=
  MachineInv_setCpu _ _ (writeR8_inv s r t.1 h) (flagByte_low t.2)

theorem timerCycle_inv (s : State) (h : MachineInv s) : MachineInv (timerCycle s) := by
  have ht := MachineInv_withTimer s _ h (tickTima_inv _ (tickDivider_inv _ h.timer))
  simp only [timerCycle]
  split
  · exact MachineInv_withIf _ _ ht
  · exact ht

theorem ppuDot_inv (s : State) (h : MachineInv s) : MachineInv (ppuDot s) := by
  simp only [ppuDot]
  split
  · exact MachineInv_withIf _ _ (MachineInv_withPpu s _ h (updateStat_inv _ (ppuAdvance_shape s.ppu s.vram s.oam h.ppu)))
  · exact h

end Sys2Proof.Machine
end

