-- ==== Sys2Proof/Laws/PerInstr.lean ====
section
/-! SUPPORT. The per-instruction family EncodedLength: every encoding has the length that R220 gives its first byte. -/

/-- The bytes of `i` are as many as the table R220 says for the first of them. -/
def Sys2Proof.Laws.EncodedLength.Statement (i : Sys2Proof.Instr) : Prop :=
  (Sys2Proof.encode i).length = Sys2Proof.instrLength ((Sys2Proof.encode i).getD 0 0)

theorem Sys2Proof.Laws.EncodedLength.nop :
    Sys2Proof.Laws.EncodedLength.Statement .nop := rfl
theorem Sys2Proof.Laws.EncodedLength.ldBcN16 (n : Word) :
    Sys2Proof.Laws.EncodedLength.Statement (.ldBcN16 n) := rfl
theorem Sys2Proof.Laws.EncodedLength.ldAtBcA :
    Sys2Proof.Laws.EncodedLength.Statement .ldAtBcA := rfl
theorem Sys2Proof.Laws.EncodedLength.incBc :
    Sys2Proof.Laws.EncodedLength.Statement .incBc := rfl
theorem Sys2Proof.Laws.EncodedLength.incB :
    Sys2Proof.Laws.EncodedLength.Statement .incB := rfl
theorem Sys2Proof.Laws.EncodedLength.decB :
    Sys2Proof.Laws.EncodedLength.Statement .decB := rfl
theorem Sys2Proof.Laws.EncodedLength.ldBN8 (n : Byte) :
    Sys2Proof.Laws.EncodedLength.Statement (.ldBN8 n) := rfl
theorem Sys2Proof.Laws.EncodedLength.rlca :
    Sys2Proof.Laws.EncodedLength.Statement .rlca := rfl
theorem Sys2Proof.Laws.EncodedLength.ldAtN16Sp (n : Word) :
    Sys2Proof.Laws.EncodedLength.Statement (.ldAtN16Sp n) := rfl
theorem Sys2Proof.Laws.EncodedLength.addHlBc :
    Sys2Proof.Laws.EncodedLength.Statement .addHlBc := rfl
theorem Sys2Proof.Laws.EncodedLength.ldAAtBc :
    Sys2Proof.Laws.EncodedLength.Statement .ldAAtBc := rfl
theorem Sys2Proof.Laws.EncodedLength.decBc :
    Sys2Proof.Laws.EncodedLength.Statement .decBc := rfl
theorem Sys2Proof.Laws.EncodedLength.incC :
    Sys2Proof.Laws.EncodedLength.Statement .incC := rfl
theorem Sys2Proof.Laws.EncodedLength.decC :
    Sys2Proof.Laws.EncodedLength.Statement .decC := rfl
theorem Sys2Proof.Laws.EncodedLength.ldCN8 (n : Byte) :
    Sys2Proof.Laws.EncodedLength.Statement (.ldCN8 n) := rfl
theorem Sys2Proof.Laws.EncodedLength.rrca :
    Sys2Proof.Laws.EncodedLength.Statement .rrca := rfl
theorem Sys2Proof.Laws.EncodedLength.stop (x : Byte) :
    Sys2Proof.Laws.EncodedLength.Statement (.stop x) := rfl
theorem Sys2Proof.Laws.EncodedLength.ldDeN16 (n : Word) :
    Sys2Proof.Laws.EncodedLength.Statement (.ldDeN16 n) := rfl
theorem Sys2Proof.Laws.EncodedLength.ldAtDeA :
    Sys2Proof.Laws.EncodedLength.Statement .ldAtDeA := rfl
theorem Sys2Proof.Laws.EncodedLength.incDe :
    Sys2Proof.Laws.EncodedLength.Statement .incDe := rfl
theorem Sys2Proof.Laws.EncodedLength.incD :
    Sys2Proof.Laws.EncodedLength.Statement .incD := rfl
theorem Sys2Proof.Laws.EncodedLength.decD :
    Sys2Proof.Laws.EncodedLength.Statement .decD := rfl
theorem Sys2Proof.Laws.EncodedLength.ldDN8 (n : Byte) :
    Sys2Proof.Laws.EncodedLength.Statement (.ldDN8 n) := rfl
theorem Sys2Proof.Laws.EncodedLength.rla :
    Sys2Proof.Laws.EncodedLength.Statement .rla := rfl
theorem Sys2Proof.Laws.EncodedLength.jrE8 (e : Byte) :
    Sys2Proof.Laws.EncodedLength.Statement (.jrE8 e) := rfl
theorem Sys2Proof.Laws.EncodedLength.addHlDe :
    Sys2Proof.Laws.EncodedLength.Statement .addHlDe := rfl
theorem Sys2Proof.Laws.EncodedLength.ldAAtDe :
    Sys2Proof.Laws.EncodedLength.Statement .ldAAtDe := rfl
theorem Sys2Proof.Laws.EncodedLength.decDe :
    Sys2Proof.Laws.EncodedLength.Statement .decDe := rfl
theorem Sys2Proof.Laws.EncodedLength.incE :
    Sys2Proof.Laws.EncodedLength.Statement .incE := rfl
theorem Sys2Proof.Laws.EncodedLength.decE :
    Sys2Proof.Laws.EncodedLength.Statement .decE := rfl
theorem Sys2Proof.Laws.EncodedLength.ldEN8 (n : Byte) :
    Sys2Proof.Laws.EncodedLength.Statement (.ldEN8 n) := rfl
theorem Sys2Proof.Laws.EncodedLength.rra :
    Sys2Proof.Laws.EncodedLength.Statement .rra := rfl
theorem Sys2Proof.Laws.EncodedLength.jrNzE8 (e : Byte) :
    Sys2Proof.Laws.EncodedLength.Statement (.jrNzE8 e) := rfl
theorem Sys2Proof.Laws.EncodedLength.ldHlN16 (n : Word) :
    Sys2Proof.Laws.EncodedLength.Statement (.ldHlN16 n) := rfl
theorem Sys2Proof.Laws.EncodedLength.ldAtHlIncA :
    Sys2Proof.Laws.EncodedLength.Statement .ldAtHlIncA := rfl
theorem Sys2Proof.Laws.EncodedLength.incHl :
    Sys2Proof.Laws.EncodedLength.Statement .incHl := rfl
theorem Sys2Proof.Laws.EncodedLength.incH :
    Sys2Proof.Laws.EncodedLength.Statement .incH := rfl
theorem Sys2Proof.Laws.EncodedLength.decH :
    Sys2Proof.Laws.EncodedLength.Statement .decH := rfl
theorem Sys2Proof.Laws.EncodedLength.ldHN8 (n : Byte) :
    Sys2Proof.Laws.EncodedLength.Statement (.ldHN8 n) := rfl
theorem Sys2Proof.Laws.EncodedLength.daa :
    Sys2Proof.Laws.EncodedLength.Statement .daa := rfl
theorem Sys2Proof.Laws.EncodedLength.jrZE8 (e : Byte) :
    Sys2Proof.Laws.EncodedLength.Statement (.jrZE8 e) := rfl
theorem Sys2Proof.Laws.EncodedLength.addHlHl :
    Sys2Proof.Laws.EncodedLength.Statement .addHlHl := rfl
theorem Sys2Proof.Laws.EncodedLength.ldAAtHlInc :
    Sys2Proof.Laws.EncodedLength.Statement .ldAAtHlInc := rfl
theorem Sys2Proof.Laws.EncodedLength.decHl :
    Sys2Proof.Laws.EncodedLength.Statement .decHl := rfl
theorem Sys2Proof.Laws.EncodedLength.incL :
    Sys2Proof.Laws.EncodedLength.Statement .incL := rfl
theorem Sys2Proof.Laws.EncodedLength.decL :
    Sys2Proof.Laws.EncodedLength.Statement .decL := rfl
theorem Sys2Proof.Laws.EncodedLength.ldLN8 (n : Byte) :
    Sys2Proof.Laws.EncodedLength.Statement (.ldLN8 n) := rfl
theorem Sys2Proof.Laws.EncodedLength.cpl :
    Sys2Proof.Laws.EncodedLength.Statement .cpl := rfl
theorem Sys2Proof.Laws.EncodedLength.jrNcE8 (e : Byte) :
    Sys2Proof.Laws.EncodedLength.Statement (.jrNcE8 e) := rfl
theorem Sys2Proof.Laws.EncodedLength.ldSpN16 (n : Word) :
    Sys2Proof.Laws.EncodedLength.Statement (.ldSpN16 n) := rfl
theorem Sys2Proof.Laws.EncodedLength.ldAtHlDecA :
    Sys2Proof.Laws.EncodedLength.Statement .ldAtHlDecA := rfl
theorem Sys2Proof.Laws.EncodedLength.incSp :
    Sys2Proof.Laws.EncodedLength.Statement .incSp := rfl
theorem Sys2Proof.Laws.EncodedLength.incAtHl :
    Sys2Proof.Laws.EncodedLength.Statement .incAtHl := rfl
theorem Sys2Proof.Laws.EncodedLength.decAtHl :
    Sys2Proof.Laws.EncodedLength.Statement .decAtHl := rfl
theorem Sys2Proof.Laws.EncodedLength.ldAtHlN8 (n : Byte) :
    Sys2Proof.Laws.EncodedLength.Statement (.ldAtHlN8 n) := rfl
theorem Sys2Proof.Laws.EncodedLength.scf :
    Sys2Proof.Laws.EncodedLength.Statement .scf := rfl
theorem Sys2Proof.Laws.EncodedLength.jrCE8 (e : Byte) :
    Sys2Proof.Laws.EncodedLength.Statement (.jrCE8 e) := rfl
theorem Sys2Proof.Laws.EncodedLength.addHlSp :
    Sys2Proof.Laws.EncodedLength.Statement .addHlSp := rfl
theorem Sys2Proof.Laws.EncodedLength.ldAAtHlDec :
    Sys2Proof.Laws.EncodedLength.Statement .ldAAtHlDec := rfl
theorem Sys2Proof.Laws.EncodedLength.decSp :
    Sys2Proof.Laws.EncodedLength.Statement .decSp := rfl
theorem Sys2Proof.Laws.EncodedLength.incA :
    Sys2Proof.Laws.EncodedLength.Statement .incA := rfl
theorem Sys2Proof.Laws.EncodedLength.decA :
    Sys2Proof.Laws.EncodedLength.Statement .decA := rfl
theorem Sys2Proof.Laws.EncodedLength.ldAN8 (n : Byte) :
    Sys2Proof.Laws.EncodedLength.Statement (.ldAN8 n) := rfl
theorem Sys2Proof.Laws.EncodedLength.ccf :
    Sys2Proof.Laws.EncodedLength.Statement .ccf := rfl
theorem Sys2Proof.Laws.EncodedLength.ldBB :
    Sys2Proof.Laws.EncodedLength.Statement .ldBB := rfl
theorem Sys2Proof.Laws.EncodedLength.ldBC :
    Sys2Proof.Laws.EncodedLength.Statement .ldBC := rfl
theorem Sys2Proof.Laws.EncodedLength.ldBD :
    Sys2Proof.Laws.EncodedLength.Statement .ldBD := rfl
theorem Sys2Proof.Laws.EncodedLength.ldBE :
    Sys2Proof.Laws.EncodedLength.Statement .ldBE := rfl
theorem Sys2Proof.Laws.EncodedLength.ldBH :
    Sys2Proof.Laws.EncodedLength.Statement .ldBH := rfl
theorem Sys2Proof.Laws.EncodedLength.ldBL :
    Sys2Proof.Laws.EncodedLength.Statement .ldBL := rfl
theorem Sys2Proof.Laws.EncodedLength.ldBAtHl :
    Sys2Proof.Laws.EncodedLength.Statement .ldBAtHl := rfl
theorem Sys2Proof.Laws.EncodedLength.ldBA :
    Sys2Proof.Laws.EncodedLength.Statement .ldBA := rfl
theorem Sys2Proof.Laws.EncodedLength.ldCB :
    Sys2Proof.Laws.EncodedLength.Statement .ldCB := rfl
theorem Sys2Proof.Laws.EncodedLength.ldCC :
    Sys2Proof.Laws.EncodedLength.Statement .ldCC := rfl
theorem Sys2Proof.Laws.EncodedLength.ldCD :
    Sys2Proof.Laws.EncodedLength.Statement .ldCD := rfl
theorem Sys2Proof.Laws.EncodedLength.ldCE :
    Sys2Proof.Laws.EncodedLength.Statement .ldCE := rfl
theorem Sys2Proof.Laws.EncodedLength.ldCH :
    Sys2Proof.Laws.EncodedLength.Statement .ldCH := rfl
theorem Sys2Proof.Laws.EncodedLength.ldCL :
    Sys2Proof.Laws.EncodedLength.Statement .ldCL := rfl
theorem Sys2Proof.Laws.EncodedLength.ldCAtHl :
    Sys2Proof.Laws.EncodedLength.Statement .ldCAtHl := rfl
theorem Sys2Proof.Laws.EncodedLength.ldCA :
    Sys2Proof.Laws.EncodedLength.Statement .ldCA := rfl
theorem Sys2Proof.Laws.EncodedLength.ldDB :
    Sys2Proof.Laws.EncodedLength.Statement .ldDB := rfl
theorem Sys2Proof.Laws.EncodedLength.ldDC :
    Sys2Proof.Laws.EncodedLength.Statement .ldDC := rfl
theorem Sys2Proof.Laws.EncodedLength.ldDD :
    Sys2Proof.Laws.EncodedLength.Statement .ldDD := rfl
theorem Sys2Proof.Laws.EncodedLength.ldDE :
    Sys2Proof.Laws.EncodedLength.Statement .ldDE := rfl
theorem Sys2Proof.Laws.EncodedLength.ldDH :
    Sys2Proof.Laws.EncodedLength.Statement .ldDH := rfl
theorem Sys2Proof.Laws.EncodedLength.ldDL :
    Sys2Proof.Laws.EncodedLength.Statement .ldDL := rfl
theorem Sys2Proof.Laws.EncodedLength.ldDAtHl :
    Sys2Proof.Laws.EncodedLength.Statement .ldDAtHl := rfl
theorem Sys2Proof.Laws.EncodedLength.ldDA :
    Sys2Proof.Laws.EncodedLength.Statement .ldDA := rfl
theorem Sys2Proof.Laws.EncodedLength.ldEB :
    Sys2Proof.Laws.EncodedLength.Statement .ldEB := rfl
theorem Sys2Proof.Laws.EncodedLength.ldEC :
    Sys2Proof.Laws.EncodedLength.Statement .ldEC := rfl
theorem Sys2Proof.Laws.EncodedLength.ldED :
    Sys2Proof.Laws.EncodedLength.Statement .ldED := rfl
theorem Sys2Proof.Laws.EncodedLength.ldEE :
    Sys2Proof.Laws.EncodedLength.Statement .ldEE := rfl
theorem Sys2Proof.Laws.EncodedLength.ldEH :
    Sys2Proof.Laws.EncodedLength.Statement .ldEH := rfl
theorem Sys2Proof.Laws.EncodedLength.ldEL :
    Sys2Proof.Laws.EncodedLength.Statement .ldEL := rfl
theorem Sys2Proof.Laws.EncodedLength.ldEAtHl :
    Sys2Proof.Laws.EncodedLength.Statement .ldEAtHl := rfl
theorem Sys2Proof.Laws.EncodedLength.ldEA :
    Sys2Proof.Laws.EncodedLength.Statement .ldEA := rfl
theorem Sys2Proof.Laws.EncodedLength.ldHB :
    Sys2Proof.Laws.EncodedLength.Statement .ldHB := rfl
theorem Sys2Proof.Laws.EncodedLength.ldHC :
    Sys2Proof.Laws.EncodedLength.Statement .ldHC := rfl
theorem Sys2Proof.Laws.EncodedLength.ldHD :
    Sys2Proof.Laws.EncodedLength.Statement .ldHD := rfl
theorem Sys2Proof.Laws.EncodedLength.ldHE :
    Sys2Proof.Laws.EncodedLength.Statement .ldHE := rfl
theorem Sys2Proof.Laws.EncodedLength.ldHH :
    Sys2Proof.Laws.EncodedLength.Statement .ldHH := rfl
theorem Sys2Proof.Laws.EncodedLength.ldHL :
    Sys2Proof.Laws.EncodedLength.Statement .ldHL := rfl
theorem Sys2Proof.Laws.EncodedLength.ldHAtHl :
    Sys2Proof.Laws.EncodedLength.Statement .ldHAtHl := rfl
theorem Sys2Proof.Laws.EncodedLength.ldHA :
    Sys2Proof.Laws.EncodedLength.Statement .ldHA := rfl
theorem Sys2Proof.Laws.EncodedLength.ldLB :
    Sys2Proof.Laws.EncodedLength.Statement .ldLB := rfl
theorem Sys2Proof.Laws.EncodedLength.ldLC :
    Sys2Proof.Laws.EncodedLength.Statement .ldLC := rfl
theorem Sys2Proof.Laws.EncodedLength.ldLD :
    Sys2Proof.Laws.EncodedLength.Statement .ldLD := rfl
theorem Sys2Proof.Laws.EncodedLength.ldLE :
    Sys2Proof.Laws.EncodedLength.Statement .ldLE := rfl
theorem Sys2Proof.Laws.EncodedLength.ldLH :
    Sys2Proof.Laws.EncodedLength.Statement .ldLH := rfl
theorem Sys2Proof.Laws.EncodedLength.ldLL :
    Sys2Proof.Laws.EncodedLength.Statement .ldLL := rfl
theorem Sys2Proof.Laws.EncodedLength.ldLAtHl :
    Sys2Proof.Laws.EncodedLength.Statement .ldLAtHl := rfl
theorem Sys2Proof.Laws.EncodedLength.ldLA :
    Sys2Proof.Laws.EncodedLength.Statement .ldLA := rfl
theorem Sys2Proof.Laws.EncodedLength.ldAtHlB :
    Sys2Proof.Laws.EncodedLength.Statement .ldAtHlB := rfl
theorem Sys2Proof.Laws.EncodedLength.ldAtHlC :
    Sys2Proof.Laws.EncodedLength.Statement .ldAtHlC := rfl
theorem Sys2Proof.Laws.EncodedLength.ldAtHlD :
    Sys2Proof.Laws.EncodedLength.Statement .ldAtHlD := rfl
theorem Sys2Proof.Laws.EncodedLength.ldAtHlE :
    Sys2Proof.Laws.EncodedLength.Statement .ldAtHlE := rfl
theorem Sys2Proof.Laws.EncodedLength.ldAtHlH :
    Sys2Proof.Laws.EncodedLength.Statement .ldAtHlH := rfl
theorem Sys2Proof.Laws.EncodedLength.ldAtHlL :
    Sys2Proof.Laws.EncodedLength.Statement .ldAtHlL := rfl
theorem Sys2Proof.Laws.EncodedLength.halt :
    Sys2Proof.Laws.EncodedLength.Statement .halt := rfl
theorem Sys2Proof.Laws.EncodedLength.ldAtHlA :
    Sys2Proof.Laws.EncodedLength.Statement .ldAtHlA := rfl
theorem Sys2Proof.Laws.EncodedLength.ldAB :
    Sys2Proof.Laws.EncodedLength.Statement .ldAB := rfl
theorem Sys2Proof.Laws.EncodedLength.ldAC :
    Sys2Proof.Laws.EncodedLength.Statement .ldAC := rfl
theorem Sys2Proof.Laws.EncodedLength.ldAD :
    Sys2Proof.Laws.EncodedLength.Statement .ldAD := rfl
theorem Sys2Proof.Laws.EncodedLength.ldAE :
    Sys2Proof.Laws.EncodedLength.Statement .ldAE := rfl
theorem Sys2Proof.Laws.EncodedLength.ldAH :
    Sys2Proof.Laws.EncodedLength.Statement .ldAH := rfl
theorem Sys2Proof.Laws.EncodedLength.ldAL :
    Sys2Proof.Laws.EncodedLength.Statement .ldAL := rfl
theorem Sys2Proof.Laws.EncodedLength.ldAAtHl :
    Sys2Proof.Laws.EncodedLength.Statement .ldAAtHl := rfl
theorem Sys2Proof.Laws.EncodedLength.ldAA :
    Sys2Proof.Laws.EncodedLength.Statement .ldAA := rfl
theorem Sys2Proof.Laws.EncodedLength.addAB :
    Sys2Proof.Laws.EncodedLength.Statement .addAB := rfl
theorem Sys2Proof.Laws.EncodedLength.addAC :
    Sys2Proof.Laws.EncodedLength.Statement .addAC := rfl
theorem Sys2Proof.Laws.EncodedLength.addAD :
    Sys2Proof.Laws.EncodedLength.Statement .addAD := rfl
theorem Sys2Proof.Laws.EncodedLength.addAE :
    Sys2Proof.Laws.EncodedLength.Statement .addAE := rfl
theorem Sys2Proof.Laws.EncodedLength.addAH :
    Sys2Proof.Laws.EncodedLength.Statement .addAH := rfl
theorem Sys2Proof.Laws.EncodedLength.addAL :
    Sys2Proof.Laws.EncodedLength.Statement .addAL := rfl
theorem Sys2Proof.Laws.EncodedLength.addAAtHl :
    Sys2Proof.Laws.EncodedLength.Statement .addAAtHl := rfl
theorem Sys2Proof.Laws.EncodedLength.addAA :
    Sys2Proof.Laws.EncodedLength.Statement .addAA := rfl
theorem Sys2Proof.Laws.EncodedLength.adcAB :
    Sys2Proof.Laws.EncodedLength.Statement .adcAB := rfl
theorem Sys2Proof.Laws.EncodedLength.adcAC :
    Sys2Proof.Laws.EncodedLength.Statement .adcAC := rfl
theorem Sys2Proof.Laws.EncodedLength.adcAD :
    Sys2Proof.Laws.EncodedLength.Statement .adcAD := rfl
theorem Sys2Proof.Laws.EncodedLength.adcAE :
    Sys2Proof.Laws.EncodedLength.Statement .adcAE := rfl
theorem Sys2Proof.Laws.EncodedLength.adcAH :
    Sys2Proof.Laws.EncodedLength.Statement .adcAH := rfl
theorem Sys2Proof.Laws.EncodedLength.adcAL :
    Sys2Proof.Laws.EncodedLength.Statement .adcAL := rfl
theorem Sys2Proof.Laws.EncodedLength.adcAAtHl :
    Sys2Proof.Laws.EncodedLength.Statement .adcAAtHl := rfl
theorem Sys2Proof.Laws.EncodedLength.adcAA :
    Sys2Proof.Laws.EncodedLength.Statement .adcAA := rfl
theorem Sys2Proof.Laws.EncodedLength.subAB :
    Sys2Proof.Laws.EncodedLength.Statement .subAB := rfl
theorem Sys2Proof.Laws.EncodedLength.subAC :
    Sys2Proof.Laws.EncodedLength.Statement .subAC := rfl
theorem Sys2Proof.Laws.EncodedLength.subAD :
    Sys2Proof.Laws.EncodedLength.Statement .subAD := rfl
theorem Sys2Proof.Laws.EncodedLength.subAE :
    Sys2Proof.Laws.EncodedLength.Statement .subAE := rfl
theorem Sys2Proof.Laws.EncodedLength.subAH :
    Sys2Proof.Laws.EncodedLength.Statement .subAH := rfl
theorem Sys2Proof.Laws.EncodedLength.subAL :
    Sys2Proof.Laws.EncodedLength.Statement .subAL := rfl
theorem Sys2Proof.Laws.EncodedLength.subAAtHl :
    Sys2Proof.Laws.EncodedLength.Statement .subAAtHl := rfl
theorem Sys2Proof.Laws.EncodedLength.subAA :
    Sys2Proof.Laws.EncodedLength.Statement .subAA := rfl
theorem Sys2Proof.Laws.EncodedLength.sbcAB :
    Sys2Proof.Laws.EncodedLength.Statement .sbcAB := rfl
theorem Sys2Proof.Laws.EncodedLength.sbcAC :
    Sys2Proof.Laws.EncodedLength.Statement .sbcAC := rfl
theorem Sys2Proof.Laws.EncodedLength.sbcAD :
    Sys2Proof.Laws.EncodedLength.Statement .sbcAD := rfl
theorem Sys2Proof.Laws.EncodedLength.sbcAE :
    Sys2Proof.Laws.EncodedLength.Statement .sbcAE := rfl
theorem Sys2Proof.Laws.EncodedLength.sbcAH :
    Sys2Proof.Laws.EncodedLength.Statement .sbcAH := rfl
theorem Sys2Proof.Laws.EncodedLength.sbcAL :
    Sys2Proof.Laws.EncodedLength.Statement .sbcAL := rfl
theorem Sys2Proof.Laws.EncodedLength.sbcAAtHl :
    Sys2Proof.Laws.EncodedLength.Statement .sbcAAtHl := rfl
theorem Sys2Proof.Laws.EncodedLength.sbcAA :
    Sys2Proof.Laws.EncodedLength.Statement .sbcAA := rfl
theorem Sys2Proof.Laws.EncodedLength.andAB :
    Sys2Proof.Laws.EncodedLength.Statement .andAB := rfl
theorem Sys2Proof.Laws.EncodedLength.andAC :
    Sys2Proof.Laws.EncodedLength.Statement .andAC := rfl
theorem Sys2Proof.Laws.EncodedLength.andAD :
    Sys2Proof.Laws.EncodedLength.Statement .andAD := rfl
theorem Sys2Proof.Laws.EncodedLength.andAE :
    Sys2Proof.Laws.EncodedLength.Statement .andAE := rfl
theorem Sys2Proof.Laws.EncodedLength.andAH :
    Sys2Proof.Laws.EncodedLength.Statement .andAH := rfl
theorem Sys2Proof.Laws.EncodedLength.andAL :
    Sys2Proof.Laws.EncodedLength.Statement .andAL := rfl
theorem Sys2Proof.Laws.EncodedLength.andAAtHl :
    Sys2Proof.Laws.EncodedLength.Statement .andAAtHl := rfl
theorem Sys2Proof.Laws.EncodedLength.andAA :
    Sys2Proof.Laws.EncodedLength.Statement .andAA := rfl
theorem Sys2Proof.Laws.EncodedLength.xorAB :
    Sys2Proof.Laws.EncodedLength.Statement .xorAB := rfl
theorem Sys2Proof.Laws.EncodedLength.xorAC :
    Sys2Proof.Laws.EncodedLength.Statement .xorAC := rfl
theorem Sys2Proof.Laws.EncodedLength.xorAD :
    Sys2Proof.Laws.EncodedLength.Statement .xorAD := rfl
theorem Sys2Proof.Laws.EncodedLength.xorAE :
    Sys2Proof.Laws.EncodedLength.Statement .xorAE := rfl
theorem Sys2Proof.Laws.EncodedLength.xorAH :
    Sys2Proof.Laws.EncodedLength.Statement .xorAH := rfl
theorem Sys2Proof.Laws.EncodedLength.xorAL :
    Sys2Proof.Laws.EncodedLength.Statement .xorAL := rfl
theorem Sys2Proof.Laws.EncodedLength.xorAAtHl :
    Sys2Proof.Laws.EncodedLength.Statement .xorAAtHl := rfl
theorem Sys2Proof.Laws.EncodedLength.xorAA :
    Sys2Proof.Laws.EncodedLength.Statement .xorAA := rfl
theorem Sys2Proof.Laws.EncodedLength.orAB :
    Sys2Proof.Laws.EncodedLength.Statement .orAB := rfl
theorem Sys2Proof.Laws.EncodedLength.orAC :
    Sys2Proof.Laws.EncodedLength.Statement .orAC := rfl
theorem Sys2Proof.Laws.EncodedLength.orAD :
    Sys2Proof.Laws.EncodedLength.Statement .orAD := rfl
theorem Sys2Proof.Laws.EncodedLength.orAE :
    Sys2Proof.Laws.EncodedLength.Statement .orAE := rfl
theorem Sys2Proof.Laws.EncodedLength.orAH :
    Sys2Proof.Laws.EncodedLength.Statement .orAH := rfl
theorem Sys2Proof.Laws.EncodedLength.orAL :
    Sys2Proof.Laws.EncodedLength.Statement .orAL := rfl
theorem Sys2Proof.Laws.EncodedLength.orAAtHl :
    Sys2Proof.Laws.EncodedLength.Statement .orAAtHl := rfl
theorem Sys2Proof.Laws.EncodedLength.orAA :
    Sys2Proof.Laws.EncodedLength.Statement .orAA := rfl
theorem Sys2Proof.Laws.EncodedLength.cpAB :
    Sys2Proof.Laws.EncodedLength.Statement .cpAB := rfl
theorem Sys2Proof.Laws.EncodedLength.cpAC :
    Sys2Proof.Laws.EncodedLength.Statement .cpAC := rfl
theorem Sys2Proof.Laws.EncodedLength.cpAD :
    Sys2Proof.Laws.EncodedLength.Statement .cpAD := rfl
theorem Sys2Proof.Laws.EncodedLength.cpAE :
    Sys2Proof.Laws.EncodedLength.Statement .cpAE := rfl
theorem Sys2Proof.Laws.EncodedLength.cpAH :
    Sys2Proof.Laws.EncodedLength.Statement .cpAH := rfl
theorem Sys2Proof.Laws.EncodedLength.cpAL :
    Sys2Proof.Laws.EncodedLength.Statement .cpAL := rfl
theorem Sys2Proof.Laws.EncodedLength.cpAAtHl :
    Sys2Proof.Laws.EncodedLength.Statement .cpAAtHl := rfl
theorem Sys2Proof.Laws.EncodedLength.cpAA :
    Sys2Proof.Laws.EncodedLength.Statement .cpAA := rfl
theorem Sys2Proof.Laws.EncodedLength.retNz :
    Sys2Proof.Laws.EncodedLength.Statement .retNz := rfl
theorem Sys2Proof.Laws.EncodedLength.popBc :
    Sys2Proof.Laws.EncodedLength.Statement .popBc := rfl
theorem Sys2Proof.Laws.EncodedLength.jpNzN16 (n : Word) :
    Sys2Proof.Laws.EncodedLength.Statement (.jpNzN16 n) := rfl
theorem Sys2Proof.Laws.EncodedLength.jpN16 (n : Word) :
    Sys2Proof.Laws.EncodedLength.Statement (.jpN16 n) := rfl
theorem Sys2Proof.Laws.EncodedLength.callNzN16 (n : Word) :
    Sys2Proof.Laws.EncodedLength.Statement (.callNzN16 n) := rfl
theorem Sys2Proof.Laws.EncodedLength.pushBc :
    Sys2Proof.Laws.EncodedLength.Statement .pushBc := rfl
theorem Sys2Proof.Laws.EncodedLength.addAN8 (n : Byte) :
    Sys2Proof.Laws.EncodedLength.Statement (.addAN8 n) := rfl
theorem Sys2Proof.Laws.EncodedLength.rst00 :
    Sys2Proof.Laws.EncodedLength.Statement .rst00 := rfl
theorem Sys2Proof.Laws.EncodedLength.retZ :
    Sys2Proof.Laws.EncodedLength.Statement .retZ := rfl
theorem Sys2Proof.Laws.EncodedLength.ret :
    Sys2Proof.Laws.EncodedLength.Statement .ret := rfl
theorem Sys2Proof.Laws.EncodedLength.jpZN16 (n : Word) :
    Sys2Proof.Laws.EncodedLength.Statement (.jpZN16 n) := rfl
theorem Sys2Proof.Laws.EncodedLength.prefixCb (op2 : Byte) :
    Sys2Proof.Laws.EncodedLength.Statement (.prefixCb op2) := rfl
theorem Sys2Proof.Laws.EncodedLength.callZN16 (n : Word) :
    Sys2Proof.Laws.EncodedLength.Statement (.callZN16 n) := rfl
theorem Sys2Proof.Laws.EncodedLength.callN16 (n : Word) :
    Sys2Proof.Laws.EncodedLength.Statement (.callN16 n) := rfl
theorem Sys2Proof.Laws.EncodedLength.adcAN8 (n : Byte) :
    Sys2Proof.Laws.EncodedLength.Statement (.adcAN8 n) := rfl
theorem Sys2Proof.Laws.EncodedLength.rst08 :
    Sys2Proof.Laws.EncodedLength.Statement .rst08 := rfl
theorem Sys2Proof.Laws.EncodedLength.retNc :
    Sys2Proof.Laws.EncodedLength.Statement .retNc := rfl
theorem Sys2Proof.Laws.EncodedLength.popDe :
    Sys2Proof.Laws.EncodedLength.Statement .popDe := rfl
theorem Sys2Proof.Laws.EncodedLength.jpNcN16 (n : Word) :
    Sys2Proof.Laws.EncodedLength.Statement (.jpNcN16 n) := rfl
theorem Sys2Proof.Laws.EncodedLength.illegalD3 :
    Sys2Proof.Laws.EncodedLength.Statement .illegalD3 := rfl
theorem Sys2Proof.Laws.EncodedLength.callNcN16 (n : Word) :
    Sys2Proof.Laws.EncodedLength.Statement (.callNcN16 n) := rfl
theorem Sys2Proof.Laws.EncodedLength.pushDe :
    Sys2Proof.Laws.EncodedLength.Statement .pushDe := rfl
theorem Sys2Proof.Laws.EncodedLength.subAN8 (n : Byte) :
    Sys2Proof.Laws.EncodedLength.Statement (.subAN8 n) := rfl
theorem Sys2Proof.Laws.EncodedLength.rst10 :
    Sys2Proof.Laws.EncodedLength.Statement .rst10 := rfl
theorem Sys2Proof.Laws.EncodedLength.retC :
    Sys2Proof.Laws.EncodedLength.Statement .retC := rfl
theorem Sys2Proof.Laws.EncodedLength.reti :
    Sys2Proof.Laws.EncodedLength.Statement .reti := rfl
theorem Sys2Proof.Laws.EncodedLength.jpCN16 (n : Word) :
    Sys2Proof.Laws.EncodedLength.Statement (.jpCN16 n) := rfl
theorem Sys2Proof.Laws.EncodedLength.illegalDB :
    Sys2Proof.Laws.EncodedLength.Statement .illegalDB := rfl
theorem Sys2Proof.Laws.EncodedLength.callCN16 (n : Word) :
    Sys2Proof.Laws.EncodedLength.Statement (.callCN16 n) := rfl
theorem Sys2Proof.Laws.EncodedLength.illegalDD :
    Sys2Proof.Laws.EncodedLength.Statement .illegalDD := rfl
theorem Sys2Proof.Laws.EncodedLength.sbcAN8 (n : Byte) :
    Sys2Proof.Laws.EncodedLength.Statement (.sbcAN8 n) := rfl
theorem Sys2Proof.Laws.EncodedLength.rst18 :
    Sys2Proof.Laws.EncodedLength.Statement .rst18 := rfl
theorem Sys2Proof.Laws.EncodedLength.ldhAtN8A (n : Byte) :
    Sys2Proof.Laws.EncodedLength.Statement (.ldhAtN8A n) := rfl
theorem Sys2Proof.Laws.EncodedLength.popHl :
    Sys2Proof.Laws.EncodedLength.Statement .popHl := rfl
theorem Sys2Proof.Laws.EncodedLength.ldhAtCA :
    Sys2Proof.Laws.EncodedLength.Statement .ldhAtCA := rfl
theorem Sys2Proof.Laws.EncodedLength.illegalE3 :
    Sys2Proof.Laws.EncodedLength.Statement .illegalE3 := rfl
theorem Sys2Proof.Laws.EncodedLength.illegalE4 :
    Sys2Proof.Laws.EncodedLength.Statement .illegalE4 := rfl
theorem Sys2Proof.Laws.EncodedLength.pushHl :
    Sys2Proof.Laws.EncodedLength.Statement .pushHl := rfl
theorem Sys2Proof.Laws.EncodedLength.andAN8 (n : Byte) :
    Sys2Proof.Laws.EncodedLength.Statement (.andAN8 n) := rfl
theorem Sys2Proof.Laws.EncodedLength.rst20 :
    Sys2Proof.Laws.EncodedLength.Statement .rst20 := rfl
theorem Sys2Proof.Laws.EncodedLength.addSpE8 (e : Byte) :
    Sys2Proof.Laws.EncodedLength.Statement (.addSpE8 e) := rfl
theorem Sys2Proof.Laws.EncodedLength.jpHl :
    Sys2Proof.Laws.EncodedLength.Statement .jpHl := rfl
theorem Sys2Proof.Laws.EncodedLength.ldAtN16A (n : Word) :
    Sys2Proof.Laws.EncodedLength.Statement (.ldAtN16A n) := rfl
theorem Sys2Proof.Laws.EncodedLength.illegalEB :
    Sys2Proof.Laws.EncodedLength.Statement .illegalEB := rfl
theorem Sys2Proof.Laws.EncodedLength.illegalEC :
    Sys2Proof.Laws.EncodedLength.Statement .illegalEC := rfl
theorem Sys2Proof.Laws.EncodedLength.illegalED :
    Sys2Proof.Laws.EncodedLength.Statement .illegalED := rfl
theorem Sys2Proof.Laws.EncodedLength.xorAN8 (n : Byte) :
    Sys2Proof.Laws.EncodedLength.Statement (.xorAN8 n) := rfl
theorem Sys2Proof.Laws.EncodedLength.rst28 :
    Sys2Proof.Laws.EncodedLength.Statement .rst28 := rfl
theorem Sys2Proof.Laws.EncodedLength.ldhAAtN8 (n : Byte) :
    Sys2Proof.Laws.EncodedLength.Statement (.ldhAAtN8 n) := rfl
theorem Sys2Proof.Laws.EncodedLength.popAf :
    Sys2Proof.Laws.EncodedLength.Statement .popAf := rfl
theorem Sys2Proof.Laws.EncodedLength.ldhAAtC :
    Sys2Proof.Laws.EncodedLength.Statement .ldhAAtC := rfl
theorem Sys2Proof.Laws.EncodedLength.di :
    Sys2Proof.Laws.EncodedLength.Statement .di := rfl
theorem Sys2Proof.Laws.EncodedLength.illegalF4 :
    Sys2Proof.Laws.EncodedLength.Statement .illegalF4 := rfl
theorem Sys2Proof.Laws.EncodedLength.pushAf :
    Sys2Proof.Laws.EncodedLength.Statement .pushAf := rfl
theorem Sys2Proof.Laws.EncodedLength.orAN8 (n : Byte) :
    Sys2Proof.Laws.EncodedLength.Statement (.orAN8 n) := rfl
theorem Sys2Proof.Laws.EncodedLength.rst30 :
    Sys2Proof.Laws.EncodedLength.Statement .rst30 := rfl
theorem Sys2Proof.Laws.EncodedLength.ldHlSpE8 (e : Byte) :
    Sys2Proof.Laws.EncodedLength.Statement (.ldHlSpE8 e) := rfl
theorem Sys2Proof.Laws.EncodedLength.ldSpHl :
    Sys2Proof.Laws.EncodedLength.Statement .ldSpHl := rfl
theorem Sys2Proof.Laws.EncodedLength.ldAAtN16 (n : Word) :
    Sys2Proof.Laws.EncodedLength.Statement (.ldAAtN16 n) := rfl
theorem Sys2Proof.Laws.EncodedLength.ei :
    Sys2Proof.Laws.EncodedLength.Statement .ei := rfl
theorem Sys2Proof.Laws.EncodedLength.illegalFC :
    Sys2Proof.Laws.EncodedLength.Statement .illegalFC := rfl
theorem Sys2Proof.Laws.EncodedLength.illegalFD :
    Sys2Proof.Laws.EncodedLength.Statement .illegalFD := rfl
theorem Sys2Proof.Laws.EncodedLength.cpAN8 (n : Byte) :
    Sys2Proof.Laws.EncodedLength.Statement (.cpAN8 n) := rfl
theorem Sys2Proof.Laws.EncodedLength.rst38 :
    Sys2Proof.Laws.EncodedLength.Statement .rst38 := rfl
theorem Sys2Proof.Laws.EncodedLength.rlcB :
    Sys2Proof.Laws.EncodedLength.Statement .rlcB := rfl
theorem Sys2Proof.Laws.EncodedLength.rlcC :
    Sys2Proof.Laws.EncodedLength.Statement .rlcC := rfl
theorem Sys2Proof.Laws.EncodedLength.rlcD :
    Sys2Proof.Laws.EncodedLength.Statement .rlcD := rfl
theorem Sys2Proof.Laws.EncodedLength.rlcE :
    Sys2Proof.Laws.EncodedLength.Statement .rlcE := rfl
theorem Sys2Proof.Laws.EncodedLength.rlcH :
    Sys2Proof.Laws.EncodedLength.Statement .rlcH := rfl
theorem Sys2Proof.Laws.EncodedLength.rlcL :
    Sys2Proof.Laws.EncodedLength.Statement .rlcL := rfl
theorem Sys2Proof.Laws.EncodedLength.rlcAtHl :
    Sys2Proof.Laws.EncodedLength.Statement .rlcAtHl := rfl
theorem Sys2Proof.Laws.EncodedLength.rlcA :
    Sys2Proof.Laws.EncodedLength.Statement .rlcA := rfl
theorem Sys2Proof.Laws.EncodedLength.rrcB :
    Sys2Proof.Laws.EncodedLength.Statement .rrcB := rfl
theorem Sys2Proof.Laws.EncodedLength.rrcC :
    Sys2Proof.Laws.EncodedLength.Statement .rrcC := rfl
theorem Sys2Proof.Laws.EncodedLength.rrcD :
    Sys2Proof.Laws.EncodedLength.Statement .rrcD := rfl
theorem Sys2Proof.Laws.EncodedLength.rrcE :
    Sys2Proof.Laws.EncodedLength.Statement .rrcE := rfl
theorem Sys2Proof.Laws.EncodedLength.rrcH :
    Sys2Proof.Laws.EncodedLength.Statement .rrcH := rfl
theorem Sys2Proof.Laws.EncodedLength.rrcL :
    Sys2Proof.Laws.EncodedLength.Statement .rrcL := rfl
theorem Sys2Proof.Laws.EncodedLength.rrcAtHl :
    Sys2Proof.Laws.EncodedLength.Statement .rrcAtHl := rfl
theorem Sys2Proof.Laws.EncodedLength.rrcA :
    Sys2Proof.Laws.EncodedLength.Statement .rrcA := rfl
theorem Sys2Proof.Laws.EncodedLength.rlB :
    Sys2Proof.Laws.EncodedLength.Statement .rlB := rfl
theorem Sys2Proof.Laws.EncodedLength.rlC :
    Sys2Proof.Laws.EncodedLength.Statement .rlC := rfl
theorem Sys2Proof.Laws.EncodedLength.rlD :
    Sys2Proof.Laws.EncodedLength.Statement .rlD := rfl
theorem Sys2Proof.Laws.EncodedLength.rlE :
    Sys2Proof.Laws.EncodedLength.Statement .rlE := rfl
theorem Sys2Proof.Laws.EncodedLength.rlH :
    Sys2Proof.Laws.EncodedLength.Statement .rlH := rfl
theorem Sys2Proof.Laws.EncodedLength.rlL :
    Sys2Proof.Laws.EncodedLength.Statement .rlL := rfl
theorem Sys2Proof.Laws.EncodedLength.rlAtHl :
    Sys2Proof.Laws.EncodedLength.Statement .rlAtHl := rfl
theorem Sys2Proof.Laws.EncodedLength.rlA :
    Sys2Proof.Laws.EncodedLength.Statement .rlA := rfl
theorem Sys2Proof.Laws.EncodedLength.rrB :
    Sys2Proof.Laws.EncodedLength.Statement .rrB := rfl
theorem Sys2Proof.Laws.EncodedLength.rrC :
    Sys2Proof.Laws.EncodedLength.Statement .rrC := rfl
theorem Sys2Proof.Laws.EncodedLength.rrD :
    Sys2Proof.Laws.EncodedLength.Statement .rrD := rfl
theorem Sys2Proof.Laws.EncodedLength.rrE :
    Sys2Proof.Laws.EncodedLength.Statement .rrE := rfl
theorem Sys2Proof.Laws.EncodedLength.rrH :
    Sys2Proof.Laws.EncodedLength.Statement .rrH := rfl
theorem Sys2Proof.Laws.EncodedLength.rrL :
    Sys2Proof.Laws.EncodedLength.Statement .rrL := rfl
theorem Sys2Proof.Laws.EncodedLength.rrAtHl :
    Sys2Proof.Laws.EncodedLength.Statement .rrAtHl := rfl
theorem Sys2Proof.Laws.EncodedLength.rrA :
    Sys2Proof.Laws.EncodedLength.Statement .rrA := rfl
theorem Sys2Proof.Laws.EncodedLength.slaB :
    Sys2Proof.Laws.EncodedLength.Statement .slaB := rfl
theorem Sys2Proof.Laws.EncodedLength.slaC :
    Sys2Proof.Laws.EncodedLength.Statement .slaC := rfl
theorem Sys2Proof.Laws.EncodedLength.slaD :
    Sys2Proof.Laws.EncodedLength.Statement .slaD := rfl
theorem Sys2Proof.Laws.EncodedLength.slaE :
    Sys2Proof.Laws.EncodedLength.Statement .slaE := rfl
theorem Sys2Proof.Laws.EncodedLength.slaH :
    Sys2Proof.Laws.EncodedLength.Statement .slaH := rfl
theorem Sys2Proof.Laws.EncodedLength.slaL :
    Sys2Proof.Laws.EncodedLength.Statement .slaL := rfl
theorem Sys2Proof.Laws.EncodedLength.slaAtHl :
    Sys2Proof.Laws.EncodedLength.Statement .slaAtHl := rfl
theorem Sys2Proof.Laws.EncodedLength.slaA :
    Sys2Proof.Laws.EncodedLength.Statement .slaA := rfl
theorem Sys2Proof.Laws.EncodedLength.sraB :
    Sys2Proof.Laws.EncodedLength.Statement .sraB := rfl
theorem Sys2Proof.Laws.EncodedLength.sraC :
    Sys2Proof.Laws.EncodedLength.Statement .sraC := rfl
theorem Sys2Proof.Laws.EncodedLength.sraD :
    Sys2Proof.Laws.EncodedLength.Statement .sraD := rfl
theorem Sys2Proof.Laws.EncodedLength.sraE :
    Sys2Proof.Laws.EncodedLength.Statement .sraE := rfl
theorem Sys2Proof.Laws.EncodedLength.sraH :
    Sys2Proof.Laws.EncodedLength.Statement .sraH := rfl
theorem Sys2Proof.Laws.EncodedLength.sraL :
    Sys2Proof.Laws.EncodedLength.Statement .sraL := rfl
theorem Sys2Proof.Laws.EncodedLength.sraAtHl :
    Sys2Proof.Laws.EncodedLength.Statement .sraAtHl := rfl
theorem Sys2Proof.Laws.EncodedLength.sraA :
    Sys2Proof.Laws.EncodedLength.Statement .sraA := rfl
theorem Sys2Proof.Laws.EncodedLength.swapB :
    Sys2Proof.Laws.EncodedLength.Statement .swapB := rfl
theorem Sys2Proof.Laws.EncodedLength.swapC :
    Sys2Proof.Laws.EncodedLength.Statement .swapC := rfl
theorem Sys2Proof.Laws.EncodedLength.swapD :
    Sys2Proof.Laws.EncodedLength.Statement .swapD := rfl
theorem Sys2Proof.Laws.EncodedLength.swapE :
    Sys2Proof.Laws.EncodedLength.Statement .swapE := rfl
theorem Sys2Proof.Laws.EncodedLength.swapH :
    Sys2Proof.Laws.EncodedLength.Statement .swapH := rfl
theorem Sys2Proof.Laws.EncodedLength.swapL :
    Sys2Proof.Laws.EncodedLength.Statement .swapL := rfl
theorem Sys2Proof.Laws.EncodedLength.swapAtHl :
    Sys2Proof.Laws.EncodedLength.Statement .swapAtHl := rfl
theorem Sys2Proof.Laws.EncodedLength.swapA :
    Sys2Proof.Laws.EncodedLength.Statement .swapA := rfl
theorem Sys2Proof.Laws.EncodedLength.srlB :
    Sys2Proof.Laws.EncodedLength.Statement .srlB := rfl
theorem Sys2Proof.Laws.EncodedLength.srlC :
    Sys2Proof.Laws.EncodedLength.Statement .srlC := rfl
theorem Sys2Proof.Laws.EncodedLength.srlD :
    Sys2Proof.Laws.EncodedLength.Statement .srlD := rfl
theorem Sys2Proof.Laws.EncodedLength.srlE :
    Sys2Proof.Laws.EncodedLength.Statement .srlE := rfl
theorem Sys2Proof.Laws.EncodedLength.srlH :
    Sys2Proof.Laws.EncodedLength.Statement .srlH := rfl
theorem Sys2Proof.Laws.EncodedLength.srlL :
    Sys2Proof.Laws.EncodedLength.Statement .srlL := rfl
theorem Sys2Proof.Laws.EncodedLength.srlAtHl :
    Sys2Proof.Laws.EncodedLength.Statement .srlAtHl := rfl
theorem Sys2Proof.Laws.EncodedLength.srlA :
    Sys2Proof.Laws.EncodedLength.Statement .srlA := rfl
theorem Sys2Proof.Laws.EncodedLength.bit0B :
    Sys2Proof.Laws.EncodedLength.Statement .bit0B := rfl
theorem Sys2Proof.Laws.EncodedLength.bit0C :
    Sys2Proof.Laws.EncodedLength.Statement .bit0C := rfl
theorem Sys2Proof.Laws.EncodedLength.bit0D :
    Sys2Proof.Laws.EncodedLength.Statement .bit0D := rfl
theorem Sys2Proof.Laws.EncodedLength.bit0E :
    Sys2Proof.Laws.EncodedLength.Statement .bit0E := rfl
theorem Sys2Proof.Laws.EncodedLength.bit0H :
    Sys2Proof.Laws.EncodedLength.Statement .bit0H := rfl
theorem Sys2Proof.Laws.EncodedLength.bit0L :
    Sys2Proof.Laws.EncodedLength.Statement .bit0L := rfl
theorem Sys2Proof.Laws.EncodedLength.bit0AtHl :
    Sys2Proof.Laws.EncodedLength.Statement .bit0AtHl := rfl
theorem Sys2Proof.Laws.EncodedLength.bit0A :
    Sys2Proof.Laws.EncodedLength.Statement .bit0A := rfl
theorem Sys2Proof.Laws.EncodedLength.bit1B :
    Sys2Proof.Laws.EncodedLength.Statement .bit1B := rfl
theorem Sys2Proof.Laws.EncodedLength.bit1C :
    Sys2Proof.Laws.EncodedLength.Statement .bit1C := rfl
theorem Sys2Proof.Laws.EncodedLength.bit1D :
    Sys2Proof.Laws.EncodedLength.Statement .bit1D := rfl
theorem Sys2Proof.Laws.EncodedLength.bit1E :
    Sys2Proof.Laws.EncodedLength.Statement .bit1E := rfl
theorem Sys2Proof.Laws.EncodedLength.bit1H :
    Sys2Proof.Laws.EncodedLength.Statement .bit1H := rfl
theorem Sys2Proof.Laws.EncodedLength.bit1L :
    Sys2Proof.Laws.EncodedLength.Statement .bit1L := rfl
theorem Sys2Proof.Laws.EncodedLength.bit1AtHl :
    Sys2Proof.Laws.EncodedLength.Statement .bit1AtHl := rfl
theorem Sys2Proof.Laws.EncodedLength.bit1A :
    Sys2Proof.Laws.EncodedLength.Statement .bit1A := rfl
theorem Sys2Proof.Laws.EncodedLength.bit2B :
    Sys2Proof.Laws.EncodedLength.Statement .bit2B := rfl
theorem Sys2Proof.Laws.EncodedLength.bit2C :
    Sys2Proof.Laws.EncodedLength.Statement .bit2C := rfl
theorem Sys2Proof.Laws.EncodedLength.bit2D :
    Sys2Proof.Laws.EncodedLength.Statement .bit2D := rfl
theorem Sys2Proof.Laws.EncodedLength.bit2E :
    Sys2Proof.Laws.EncodedLength.Statement .bit2E := rfl
theorem Sys2Proof.Laws.EncodedLength.bit2H :
    Sys2Proof.Laws.EncodedLength.Statement .bit2H := rfl
theorem Sys2Proof.Laws.EncodedLength.bit2L :
    Sys2Proof.Laws.EncodedLength.Statement .bit2L := rfl
theorem Sys2Proof.Laws.EncodedLength.bit2AtHl :
    Sys2Proof.Laws.EncodedLength.Statement .bit2AtHl := rfl
theorem Sys2Proof.Laws.EncodedLength.bit2A :
    Sys2Proof.Laws.EncodedLength.Statement .bit2A := rfl
theorem Sys2Proof.Laws.EncodedLength.bit3B :
    Sys2Proof.Laws.EncodedLength.Statement .bit3B := rfl
theorem Sys2Proof.Laws.EncodedLength.bit3C :
    Sys2Proof.Laws.EncodedLength.Statement .bit3C := rfl
theorem Sys2Proof.Laws.EncodedLength.bit3D :
    Sys2Proof.Laws.EncodedLength.Statement .bit3D := rfl
theorem Sys2Proof.Laws.EncodedLength.bit3E :
    Sys2Proof.Laws.EncodedLength.Statement .bit3E := rfl
theorem Sys2Proof.Laws.EncodedLength.bit3H :
    Sys2Proof.Laws.EncodedLength.Statement .bit3H := rfl
theorem Sys2Proof.Laws.EncodedLength.bit3L :
    Sys2Proof.Laws.EncodedLength.Statement .bit3L := rfl
theorem Sys2Proof.Laws.EncodedLength.bit3AtHl :
    Sys2Proof.Laws.EncodedLength.Statement .bit3AtHl := rfl
theorem Sys2Proof.Laws.EncodedLength.bit3A :
    Sys2Proof.Laws.EncodedLength.Statement .bit3A := rfl
theorem Sys2Proof.Laws.EncodedLength.bit4B :
    Sys2Proof.Laws.EncodedLength.Statement .bit4B := rfl
theorem Sys2Proof.Laws.EncodedLength.bit4C :
    Sys2Proof.Laws.EncodedLength.Statement .bit4C := rfl
theorem Sys2Proof.Laws.EncodedLength.bit4D :
    Sys2Proof.Laws.EncodedLength.Statement .bit4D := rfl
theorem Sys2Proof.Laws.EncodedLength.bit4E :
    Sys2Proof.Laws.EncodedLength.Statement .bit4E := rfl
theorem Sys2Proof.Laws.EncodedLength.bit4H :
    Sys2Proof.Laws.EncodedLength.Statement .bit4H := rfl
theorem Sys2Proof.Laws.EncodedLength.bit4L :
    Sys2Proof.Laws.EncodedLength.Statement .bit4L := rfl
theorem Sys2Proof.Laws.EncodedLength.bit4AtHl :
    Sys2Proof.Laws.EncodedLength.Statement .bit4AtHl := rfl
theorem Sys2Proof.Laws.EncodedLength.bit4A :
    Sys2Proof.Laws.EncodedLength.Statement .bit4A := rfl
theorem Sys2Proof.Laws.EncodedLength.bit5B :
    Sys2Proof.Laws.EncodedLength.Statement .bit5B := rfl
theorem Sys2Proof.Laws.EncodedLength.bit5C :
    Sys2Proof.Laws.EncodedLength.Statement .bit5C := rfl
theorem Sys2Proof.Laws.EncodedLength.bit5D :
    Sys2Proof.Laws.EncodedLength.Statement .bit5D := rfl
theorem Sys2Proof.Laws.EncodedLength.bit5E :
    Sys2Proof.Laws.EncodedLength.Statement .bit5E := rfl
theorem Sys2Proof.Laws.EncodedLength.bit5H :
    Sys2Proof.Laws.EncodedLength.Statement .bit5H := rfl
theorem Sys2Proof.Laws.EncodedLength.bit5L :
    Sys2Proof.Laws.EncodedLength.Statement .bit5L := rfl
theorem Sys2Proof.Laws.EncodedLength.bit5AtHl :
    Sys2Proof.Laws.EncodedLength.Statement .bit5AtHl := rfl
theorem Sys2Proof.Laws.EncodedLength.bit5A :
    Sys2Proof.Laws.EncodedLength.Statement .bit5A := rfl
theorem Sys2Proof.Laws.EncodedLength.bit6B :
    Sys2Proof.Laws.EncodedLength.Statement .bit6B := rfl
theorem Sys2Proof.Laws.EncodedLength.bit6C :
    Sys2Proof.Laws.EncodedLength.Statement .bit6C := rfl
theorem Sys2Proof.Laws.EncodedLength.bit6D :
    Sys2Proof.Laws.EncodedLength.Statement .bit6D := rfl
theorem Sys2Proof.Laws.EncodedLength.bit6E :
    Sys2Proof.Laws.EncodedLength.Statement .bit6E := rfl
theorem Sys2Proof.Laws.EncodedLength.bit6H :
    Sys2Proof.Laws.EncodedLength.Statement .bit6H := rfl
theorem Sys2Proof.Laws.EncodedLength.bit6L :
    Sys2Proof.Laws.EncodedLength.Statement .bit6L := rfl
theorem Sys2Proof.Laws.EncodedLength.bit6AtHl :
    Sys2Proof.Laws.EncodedLength.Statement .bit6AtHl := rfl
theorem Sys2Proof.Laws.EncodedLength.bit6A :
    Sys2Proof.Laws.EncodedLength.Statement .bit6A := rfl
theorem Sys2Proof.Laws.EncodedLength.bit7B :
    Sys2Proof.Laws.EncodedLength.Statement .bit7B := rfl
theorem Sys2Proof.Laws.EncodedLength.bit7C :
    Sys2Proof.Laws.EncodedLength.Statement .bit7C := rfl
theorem Sys2Proof.Laws.EncodedLength.bit7D :
    Sys2Proof.Laws.EncodedLength.Statement .bit7D := rfl
theorem Sys2Proof.Laws.EncodedLength.bit7E :
    Sys2Proof.Laws.EncodedLength.Statement .bit7E := rfl
theorem Sys2Proof.Laws.EncodedLength.bit7H :
    Sys2Proof.Laws.EncodedLength.Statement .bit7H := rfl
theorem Sys2Proof.Laws.EncodedLength.bit7L :
    Sys2Proof.Laws.EncodedLength.Statement .bit7L := rfl
theorem Sys2Proof.Laws.EncodedLength.bit7AtHl :
    Sys2Proof.Laws.EncodedLength.Statement .bit7AtHl := rfl
theorem Sys2Proof.Laws.EncodedLength.bit7A :
    Sys2Proof.Laws.EncodedLength.Statement .bit7A := rfl
theorem Sys2Proof.Laws.EncodedLength.res0B :
    Sys2Proof.Laws.EncodedLength.Statement .res0B := rfl
theorem Sys2Proof.Laws.EncodedLength.res0C :
    Sys2Proof.Laws.EncodedLength.Statement .res0C := rfl
theorem Sys2Proof.Laws.EncodedLength.res0D :
    Sys2Proof.Laws.EncodedLength.Statement .res0D := rfl
theorem Sys2Proof.Laws.EncodedLength.res0E :
    Sys2Proof.Laws.EncodedLength.Statement .res0E := rfl
theorem Sys2Proof.Laws.EncodedLength.res0H :
    Sys2Proof.Laws.EncodedLength.Statement .res0H := rfl
theorem Sys2Proof.Laws.EncodedLength.res0L :
    Sys2Proof.Laws.EncodedLength.Statement .res0L := rfl
theorem Sys2Proof.Laws.EncodedLength.res0AtHl :
    Sys2Proof.Laws.EncodedLength.Statement .res0AtHl := rfl
theorem Sys2Proof.Laws.EncodedLength.res0A :
    Sys2Proof.Laws.EncodedLength.Statement .res0A := rfl
theorem Sys2Proof.Laws.EncodedLength.res1B :
    Sys2Proof.Laws.EncodedLength.Statement .res1B := rfl
theorem Sys2Proof.Laws.EncodedLength.res1C :
    Sys2Proof.Laws.EncodedLength.Statement .res1C := rfl
theorem Sys2Proof.Laws.EncodedLength.res1D :
    Sys2Proof.Laws.EncodedLength.Statement .res1D := rfl
theorem Sys2Proof.Laws.EncodedLength.res1E :
    Sys2Proof.Laws.EncodedLength.Statement .res1E := rfl
theorem Sys2Proof.Laws.EncodedLength.res1H :
    Sys2Proof.Laws.EncodedLength.Statement .res1H := rfl
theorem Sys2Proof.Laws.EncodedLength.res1L :
    Sys2Proof.Laws.EncodedLength.Statement .res1L := rfl
theorem Sys2Proof.Laws.EncodedLength.res1AtHl :
    Sys2Proof.Laws.EncodedLength.Statement .res1AtHl := rfl
theorem Sys2Proof.Laws.EncodedLength.res1A :
    Sys2Proof.Laws.EncodedLength.Statement .res1A := rfl
theorem Sys2Proof.Laws.EncodedLength.res2B :
    Sys2Proof.Laws.EncodedLength.Statement .res2B := rfl
theorem Sys2Proof.Laws.EncodedLength.res2C :
    Sys2Proof.Laws.EncodedLength.Statement .res2C := rfl
theorem Sys2Proof.Laws.EncodedLength.res2D :
    Sys2Proof.Laws.EncodedLength.Statement .res2D := rfl
theorem Sys2Proof.Laws.EncodedLength.res2E :
    Sys2Proof.Laws.EncodedLength.Statement .res2E := rfl
theorem Sys2Proof.Laws.EncodedLength.res2H :
    Sys2Proof.Laws.EncodedLength.Statement .res2H := rfl
theorem Sys2Proof.Laws.EncodedLength.res2L :
    Sys2Proof.Laws.EncodedLength.Statement .res2L := rfl
theorem Sys2Proof.Laws.EncodedLength.res2AtHl :
    Sys2Proof.Laws.EncodedLength.Statement .res2AtHl := rfl
theorem Sys2Proof.Laws.EncodedLength.res2A :
    Sys2Proof.Laws.EncodedLength.Statement .res2A := rfl
theorem Sys2Proof.Laws.EncodedLength.res3B :
    Sys2Proof.Laws.EncodedLength.Statement .res3B := rfl
theorem Sys2Proof.Laws.EncodedLength.res3C :
    Sys2Proof.Laws.EncodedLength.Statement .res3C := rfl
theorem Sys2Proof.Laws.EncodedLength.res3D :
    Sys2Proof.Laws.EncodedLength.Statement .res3D := rfl
theorem Sys2Proof.Laws.EncodedLength.res3E :
    Sys2Proof.Laws.EncodedLength.Statement .res3E := rfl
theorem Sys2Proof.Laws.EncodedLength.res3H :
    Sys2Proof.Laws.EncodedLength.Statement .res3H := rfl
theorem Sys2Proof.Laws.EncodedLength.res3L :
    Sys2Proof.Laws.EncodedLength.Statement .res3L := rfl
theorem Sys2Proof.Laws.EncodedLength.res3AtHl :
    Sys2Proof.Laws.EncodedLength.Statement .res3AtHl := rfl
theorem Sys2Proof.Laws.EncodedLength.res3A :
    Sys2Proof.Laws.EncodedLength.Statement .res3A := rfl
theorem Sys2Proof.Laws.EncodedLength.res4B :
    Sys2Proof.Laws.EncodedLength.Statement .res4B := rfl
theorem Sys2Proof.Laws.EncodedLength.res4C :
    Sys2Proof.Laws.EncodedLength.Statement .res4C := rfl
theorem Sys2Proof.Laws.EncodedLength.res4D :
    Sys2Proof.Laws.EncodedLength.Statement .res4D := rfl
theorem Sys2Proof.Laws.EncodedLength.res4E :
    Sys2Proof.Laws.EncodedLength.Statement .res4E := rfl
theorem Sys2Proof.Laws.EncodedLength.res4H :
    Sys2Proof.Laws.EncodedLength.Statement .res4H := rfl
theorem Sys2Proof.Laws.EncodedLength.res4L :
    Sys2Proof.Laws.EncodedLength.Statement .res4L := rfl
theorem Sys2Proof.Laws.EncodedLength.res4AtHl :
    Sys2Proof.Laws.EncodedLength.Statement .res4AtHl := rfl
theorem Sys2Proof.Laws.EncodedLength.res4A :
    Sys2Proof.Laws.EncodedLength.Statement .res4A := rfl
theorem Sys2Proof.Laws.EncodedLength.res5B :
    Sys2Proof.Laws.EncodedLength.Statement .res5B := rfl
theorem Sys2Proof.Laws.EncodedLength.res5C :
    Sys2Proof.Laws.EncodedLength.Statement .res5C := rfl
theorem Sys2Proof.Laws.EncodedLength.res5D :
    Sys2Proof.Laws.EncodedLength.Statement .res5D := rfl
theorem Sys2Proof.Laws.EncodedLength.res5E :
    Sys2Proof.Laws.EncodedLength.Statement .res5E := rfl
theorem Sys2Proof.Laws.EncodedLength.res5H :
    Sys2Proof.Laws.EncodedLength.Statement .res5H := rfl
theorem Sys2Proof.Laws.EncodedLength.res5L :
    Sys2Proof.Laws.EncodedLength.Statement .res5L := rfl
theorem Sys2Proof.Laws.EncodedLength.res5AtHl :
    Sys2Proof.Laws.EncodedLength.Statement .res5AtHl := rfl
theorem Sys2Proof.Laws.EncodedLength.res5A :
    Sys2Proof.Laws.EncodedLength.Statement .res5A := rfl
theorem Sys2Proof.Laws.EncodedLength.res6B :
    Sys2Proof.Laws.EncodedLength.Statement .res6B := rfl
theorem Sys2Proof.Laws.EncodedLength.res6C :
    Sys2Proof.Laws.EncodedLength.Statement .res6C := rfl
theorem Sys2Proof.Laws.EncodedLength.res6D :
    Sys2Proof.Laws.EncodedLength.Statement .res6D := rfl
theorem Sys2Proof.Laws.EncodedLength.res6E :
    Sys2Proof.Laws.EncodedLength.Statement .res6E := rfl
theorem Sys2Proof.Laws.EncodedLength.res6H :
    Sys2Proof.Laws.EncodedLength.Statement .res6H := rfl
theorem Sys2Proof.Laws.EncodedLength.res6L :
    Sys2Proof.Laws.EncodedLength.Statement .res6L := rfl
theorem Sys2Proof.Laws.EncodedLength.res6AtHl :
    Sys2Proof.Laws.EncodedLength.Statement .res6AtHl := rfl
theorem Sys2Proof.Laws.EncodedLength.res6A :
    Sys2Proof.Laws.EncodedLength.Statement .res6A := rfl
theorem Sys2Proof.Laws.EncodedLength.res7B :
    Sys2Proof.Laws.EncodedLength.Statement .res7B := rfl
theorem Sys2Proof.Laws.EncodedLength.res7C :
    Sys2Proof.Laws.EncodedLength.Statement .res7C := rfl
theorem Sys2Proof.Laws.EncodedLength.res7D :
    Sys2Proof.Laws.EncodedLength.Statement .res7D := rfl
theorem Sys2Proof.Laws.EncodedLength.res7E :
    Sys2Proof.Laws.EncodedLength.Statement .res7E := rfl
theorem Sys2Proof.Laws.EncodedLength.res7H :
    Sys2Proof.Laws.EncodedLength.Statement .res7H := rfl
theorem Sys2Proof.Laws.EncodedLength.res7L :
    Sys2Proof.Laws.EncodedLength.Statement .res7L := rfl
theorem Sys2Proof.Laws.EncodedLength.res7AtHl :
    Sys2Proof.Laws.EncodedLength.Statement .res7AtHl := rfl
theorem Sys2Proof.Laws.EncodedLength.res7A :
    Sys2Proof.Laws.EncodedLength.Statement .res7A := rfl
theorem Sys2Proof.Laws.EncodedLength.set0B :
    Sys2Proof.Laws.EncodedLength.Statement .set0B := rfl
theorem Sys2Proof.Laws.EncodedLength.set0C :
    Sys2Proof.Laws.EncodedLength.Statement .set0C := rfl
theorem Sys2Proof.Laws.EncodedLength.set0D :
    Sys2Proof.Laws.EncodedLength.Statement .set0D := rfl
theorem Sys2Proof.Laws.EncodedLength.set0E :
    Sys2Proof.Laws.EncodedLength.Statement .set0E := rfl
theorem Sys2Proof.Laws.EncodedLength.set0H :
    Sys2Proof.Laws.EncodedLength.Statement .set0H := rfl
theorem Sys2Proof.Laws.EncodedLength.set0L :
    Sys2Proof.Laws.EncodedLength.Statement .set0L := rfl
theorem Sys2Proof.Laws.EncodedLength.set0AtHl :
    Sys2Proof.Laws.EncodedLength.Statement .set0AtHl := rfl
theorem Sys2Proof.Laws.EncodedLength.set0A :
    Sys2Proof.Laws.EncodedLength.Statement .set0A := rfl
theorem Sys2Proof.Laws.EncodedLength.set1B :
    Sys2Proof.Laws.EncodedLength.Statement .set1B := rfl
theorem Sys2Proof.Laws.EncodedLength.set1C :
    Sys2Proof.Laws.EncodedLength.Statement .set1C := rfl
theorem Sys2Proof.Laws.EncodedLength.set1D :
    Sys2Proof.Laws.EncodedLength.Statement .set1D := rfl
theorem Sys2Proof.Laws.EncodedLength.set1E :
    Sys2Proof.Laws.EncodedLength.Statement .set1E := rfl
theorem Sys2Proof.Laws.EncodedLength.set1H :
    Sys2Proof.Laws.EncodedLength.Statement .set1H := rfl
theorem Sys2Proof.Laws.EncodedLength.set1L :
    Sys2Proof.Laws.EncodedLength.Statement .set1L := rfl
theorem Sys2Proof.Laws.EncodedLength.set1AtHl :
    Sys2Proof.Laws.EncodedLength.Statement .set1AtHl := rfl
theorem Sys2Proof.Laws.EncodedLength.set1A :
    Sys2Proof.Laws.EncodedLength.Statement .set1A := rfl
theorem Sys2Proof.Laws.EncodedLength.set2B :
    Sys2Proof.Laws.EncodedLength.Statement .set2B := rfl
theorem Sys2Proof.Laws.EncodedLength.set2C :
    Sys2Proof.Laws.EncodedLength.Statement .set2C := rfl
theorem Sys2Proof.Laws.EncodedLength.set2D :
    Sys2Proof.Laws.EncodedLength.Statement .set2D := rfl
theorem Sys2Proof.Laws.EncodedLength.set2E :
    Sys2Proof.Laws.EncodedLength.Statement .set2E := rfl
theorem Sys2Proof.Laws.EncodedLength.set2H :
    Sys2Proof.Laws.EncodedLength.Statement .set2H := rfl
theorem Sys2Proof.Laws.EncodedLength.set2L :
    Sys2Proof.Laws.EncodedLength.Statement .set2L := rfl
theorem Sys2Proof.Laws.EncodedLength.set2AtHl :
    Sys2Proof.Laws.EncodedLength.Statement .set2AtHl := rfl
theorem Sys2Proof.Laws.EncodedLength.set2A :
    Sys2Proof.Laws.EncodedLength.Statement .set2A := rfl
theorem Sys2Proof.Laws.EncodedLength.set3B :
    Sys2Proof.Laws.EncodedLength.Statement .set3B := rfl
theorem Sys2Proof.Laws.EncodedLength.set3C :
    Sys2Proof.Laws.EncodedLength.Statement .set3C := rfl
theorem Sys2Proof.Laws.EncodedLength.set3D :
    Sys2Proof.Laws.EncodedLength.Statement .set3D := rfl
theorem Sys2Proof.Laws.EncodedLength.set3E :
    Sys2Proof.Laws.EncodedLength.Statement .set3E := rfl
theorem Sys2Proof.Laws.EncodedLength.set3H :
    Sys2Proof.Laws.EncodedLength.Statement .set3H := rfl
theorem Sys2Proof.Laws.EncodedLength.set3L :
    Sys2Proof.Laws.EncodedLength.Statement .set3L := rfl
theorem Sys2Proof.Laws.EncodedLength.set3AtHl :
    Sys2Proof.Laws.EncodedLength.Statement .set3AtHl := rfl
theorem Sys2Proof.Laws.EncodedLength.set3A :
    Sys2Proof.Laws.EncodedLength.Statement .set3A := rfl
theorem Sys2Proof.Laws.EncodedLength.set4B :
    Sys2Proof.Laws.EncodedLength.Statement .set4B := rfl
theorem Sys2Proof.Laws.EncodedLength.set4C :
    Sys2Proof.Laws.EncodedLength.Statement .set4C := rfl
theorem Sys2Proof.Laws.EncodedLength.set4D :
    Sys2Proof.Laws.EncodedLength.Statement .set4D := rfl
theorem Sys2Proof.Laws.EncodedLength.set4E :
    Sys2Proof.Laws.EncodedLength.Statement .set4E := rfl
theorem Sys2Proof.Laws.EncodedLength.set4H :
    Sys2Proof.Laws.EncodedLength.Statement .set4H := rfl
theorem Sys2Proof.Laws.EncodedLength.set4L :
    Sys2Proof.Laws.EncodedLength.Statement .set4L := rfl
theorem Sys2Proof.Laws.EncodedLength.set4AtHl :
    Sys2Proof.Laws.EncodedLength.Statement .set4AtHl := rfl
theorem Sys2Proof.Laws.EncodedLength.set4A :
    Sys2Proof.Laws.EncodedLength.Statement .set4A := rfl
theorem Sys2Proof.Laws.EncodedLength.set5B :
    Sys2Proof.Laws.EncodedLength.Statement .set5B := rfl
theorem Sys2Proof.Laws.EncodedLength.set5C :
    Sys2Proof.Laws.EncodedLength.Statement .set5C := rfl
theorem Sys2Proof.Laws.EncodedLength.set5D :
    Sys2Proof.Laws.EncodedLength.Statement .set5D := rfl
theorem Sys2Proof.Laws.EncodedLength.set5E :
    Sys2Proof.Laws.EncodedLength.Statement .set5E := rfl
theorem Sys2Proof.Laws.EncodedLength.set5H :
    Sys2Proof.Laws.EncodedLength.Statement .set5H := rfl
theorem Sys2Proof.Laws.EncodedLength.set5L :
    Sys2Proof.Laws.EncodedLength.Statement .set5L := rfl
theorem Sys2Proof.Laws.EncodedLength.set5AtHl :
    Sys2Proof.Laws.EncodedLength.Statement .set5AtHl := rfl
theorem Sys2Proof.Laws.EncodedLength.set5A :
    Sys2Proof.Laws.EncodedLength.Statement .set5A := rfl
theorem Sys2Proof.Laws.EncodedLength.set6B :
    Sys2Proof.Laws.EncodedLength.Statement .set6B := rfl
theorem Sys2Proof.Laws.EncodedLength.set6C :
    Sys2Proof.Laws.EncodedLength.Statement .set6C := rfl
theorem Sys2Proof.Laws.EncodedLength.set6D :
    Sys2Proof.Laws.EncodedLength.Statement .set6D := rfl
theorem Sys2Proof.Laws.EncodedLength.set6E :
    Sys2Proof.Laws.EncodedLength.Statement .set6E := rfl
theorem Sys2Proof.Laws.EncodedLength.set6H :
    Sys2Proof.Laws.EncodedLength.Statement .set6H := rfl
theorem Sys2Proof.Laws.EncodedLength.set6L :
    Sys2Proof.Laws.EncodedLength.Statement .set6L := rfl
theorem Sys2Proof.Laws.EncodedLength.set6AtHl :
    Sys2Proof.Laws.EncodedLength.Statement .set6AtHl := rfl
theorem Sys2Proof.Laws.EncodedLength.set6A :
    Sys2Proof.Laws.EncodedLength.Statement .set6A := rfl
theorem Sys2Proof.Laws.EncodedLength.set7B :
    Sys2Proof.Laws.EncodedLength.Statement .set7B := rfl
theorem Sys2Proof.Laws.EncodedLength.set7C :
    Sys2Proof.Laws.EncodedLength.Statement .set7C := rfl
theorem Sys2Proof.Laws.EncodedLength.set7D :
    Sys2Proof.Laws.EncodedLength.Statement .set7D := rfl
theorem Sys2Proof.Laws.EncodedLength.set7E :
    Sys2Proof.Laws.EncodedLength.Statement .set7E := rfl
theorem Sys2Proof.Laws.EncodedLength.set7H :
    Sys2Proof.Laws.EncodedLength.Statement .set7H := rfl
theorem Sys2Proof.Laws.EncodedLength.set7L :
    Sys2Proof.Laws.EncodedLength.Statement .set7L := rfl
theorem Sys2Proof.Laws.EncodedLength.set7AtHl :
    Sys2Proof.Laws.EncodedLength.Statement .set7AtHl := rfl
theorem Sys2Proof.Laws.EncodedLength.set7A :
    Sys2Proof.Laws.EncodedLength.Statement .set7A := rfl
end

