-- ==== Sys2Proof/Laws/Sequencer.lean ====
section
/-! SUPPORT. What the parts of a step do (Machine/Sequencer.lean): the repetition of a tick, the wake, the delayed EI, and
the invariant through an instruction's effect. -/

namespace Sys2Proof.Machine

open Sys2Proof.Safety

theorem repeatN_eq_iterate (n : Nat) (f : State → State) (s : State) : repeatN n f s = f^[n] s := by
  induction n generalizing s with
  | zero => rfl
  | succ n ih => exact ih (f s)

/-- What one tick keeps, any number of them keeps. -/
theorem repeatN_keeps (P : State → Prop) (f : State → State) (h : ∀ s, P s → P (f s)) (n : Nat) (s : State) (hs : P s) :
    P (repeatN n f s) := by
  induction n generalizing s with
  | zero => exact hs
  | succ n ih => exact ih _ (h _ hs)

/-- What a dot and a timer cycle keep, the device phase keeps. -/
theorem advanceDevices_keeps (P : State → Prop) (hd : ∀ s, P s → P (ppuDot s)) (ht : ∀ s, P s → P (timerCycle s))
    (n : Nat) (s : State) (hs : P s) : P (advanceDevices n s) :=
  repeatN_keeps P _ ht _ _ (repeatN_keeps P _ hd _ _ hs)

/-- A dot changes the PPU and IF alone (60_exceptions.md R541). -/
theorem ppuDot_eq (s : State) : ∃ p v, ppuDot s = { s with ppu := p, ifReg := v } := by
  unfold ppuDot; split
  · exact ⟨_, _, rfl⟩
  · exact ⟨s.ppu, s.ifReg, rfl⟩

/-- A timer cycle changes the timer and IF alone (60_exceptions.md R580). -/
theorem timerCycle_eq (s : State) : ∃ t v, timerCycle s = { s with timer := t, ifReg := v } := by
  unfold timerCycle; dsimp only; split
  · exact ⟨_, _, rfl⟩
  · exact ⟨_, s.ifReg, rfl⟩

/-- The wake changes `halted` alone, to 0 where a request is pending (R251). -/
theorem wake_eq (s : State) : wake s = s.setCpu { s.cpu with halted := s.cpu.halted && decide (pending s = 0) } := by
  unfold wake; split
  · rename_i h; rw [decide_eq_false h, Bool.and_false]
  · rename_i h; rw [decide_eq_true (not_not.1 h), Bool.and_true]; rfl

theorem applyEi_eq (b : Bool) (s : State) : applyEi b s = s.setCpu { s.cpu with
    ime := s.cpu.ime || (b && s.cpu.eiPending), eiPending := s.cpu.eiPending && !b } := by
  unfold applyEi
  cases b <;> cases h : s.cpu.eiPending <;> simp [State.setCpu] <;> rw [← h]

/-- Stores leave the CPU as it was. -/
@[simp] theorem storeAll_cpu (w : List (Word × Byte)) (s : State) : (storeAll s w).cpu = s.cpu := by
  induction w generalizing s with
  | nil => rfl
  | cons x w ih => exact (ih _).trans (memWrite_cpu _ _ _)

theorem storeAll_inv (w : List (Word × Byte)) (s : State) (h : MachineInv s) : MachineInv (storeAll s w) := by
  induction w generalizing s with
  | nil => exact h
  | cons x w ih => exact ih _ (memWrite_inv _ _ _ h)

/-- An instruction's effect keeps the invariant. -/
theorem Effect_inv (s t : State) (h : MachineInv s) (e : Effect s t) : MachineInv t := by
  obtain ⟨w, k, -, hf, rfl⟩ := e
  exact MachineInv_setCpu _ _ (storeAll_inv w s h) (hf h.flags)

end Sys2Proof.Machine
end

