-- ==== Sys2Proof/Tests/Slice0.lean ====
section
/-! SUPPORT. Tests of one step each, with expected results from spec/95_test_vectors.md (the vector's name is the test's),
words decoded as 30_encoding.md writes them, and for every statement with hypotheses a witness that meets them. -/

namespace Sys2Proof.Tests

open Sys2Proof.Machine Sys2Proof.Safety

/-! ### Helpers -/

/-- The start registers of the vector tables: 0 each. -/
def cpu0 : Cpu :=
  { a := 0, f := 0, b := 0, c := 0, d := 0, e := 0, h := 0, l := 0, sp := 0, pc := 0xC000
    ime := false, eiPending := false, halted := false, locked := false }

/-- `s` with a byte stored. -/
def poke (s : State) (x : Nat × Byte) : State := memWrite s (BitVec.ofNat 16 x.1) x.2

/-- The start state of the vector tables: registers `k`, code at 0xC000, some bytes of memory, IF = 0. -/
def start (k : Cpu) (code : List Byte) (data : List (Nat × Byte)) : State :=
  data.foldl poke { State.reset with cpu := k, ifReg := 0, wram := Memory.ofBytes 0 code }

/-- What `view` sees after one CPU step, if it answers a next state. -/
def after {α : Type} (s : State) (view : State → α) : Option α :=
  match cpuStep s with
  | .next t => some (view t)
  | .fault _ => none
  | .refused _ => none

/-! ### Well-formedness and decoding -/

theorem test_wellFormed_refuses_prefix : WellFormed (.prefixCb 0x37) = false := by decide

theorem test_wellFormed_accepts : WellFormed (.ldBcN16 0xFFFF) = true ∧ WellFormed (.stop 0x00) = true := by decide

theorem test_decode_load : decode [0b01_111_000] = .ok (.ldAB, []) ∧
    decode [0b01_110_101, 0xFF] = .ok (.ldAtHlL, [0xFF]) := by decide

theorem test_decode_load16 : decode [0b00_11_0001, 0xFE, 0xFF] = .ok (.ldSpN16 0xFFFE, []) ∧
    decode [0b11_10_0101] = .ok (.pushHl, []) := by decide

theorem test_decode_alu8 : decode [0b10_011_110] = .ok (.sbcAAtHl, []) ∧
    decode [0b11_111_110, 0x3C] = .ok (.cpAN8 0x3C, []) := by decide

theorem test_decode_alu16 : decode [0b00_10_1001] = .ok (.addHlHl, []) ∧
    decode [0b00_01_1011] = .ok (.decDe, []) := by decide

theorem test_decode_prefix : decode [0xCB, 0b00_110_111] = .ok (.swapA, []) ∧
    decode [0xCB, 0b01_111_110] = .ok (.bit7AtHl, []) := by decide

theorem test_decode_control : decode [0b11_0_01_010, 0x00, 0x40] = .ok (.jpZN16 0x4000, []) ∧
    decode [0b11_101_111] = .ok (.rst28, []) := by decide

theorem test_decode_system : decode [0b01_110_110] = .ok (.halt, []) ∧
    decode [0b0001_0000, 0x5A] = .ok (.stop 0x5A, []) := by decide

theorem test_decode_illegal : decode [0xED, 0x01] = .ok (.illegalED, [0x01]) := by decide

theorem test_decode_short : decode [0xC3, 0x00] = .error (.truncated 2 3) ∧ decode [] = .error (.truncated 0 1) := by decide

theorem test_decodeTableWord : decodeTableWord 8 0x78 = some .ldAB ∧ decodeTableWord 24 0x1234C3 = some (.jpN16 0x1234) := by
  decide

theorem test_withFetchWord_runs : step (State.reset.withFetchWord 8 0x3C) =
    .next (advanceDevices 1 { State.reset.withFetchWord 8 0x3C with
      cpu := { Cpu.reset with a := 0x02, f := 0x10, pc := 0x0101 }, cycles := 1 }) := rfl

/-! ### One CPU step (95_test_vectors.md sections 4 to 10) -/

/-- L1 (R281): `LD A,B`. -/
theorem test_L1 : after (start { cpu0 with b := 0x12 } [0x78] [])
    (fun t => (t.cpu.a, t.cpu.f, t.cpu.pc, t.cycles)) = some (0x12, 0x00, 0xC001, 1) := by decide

/-- L3 (R282): `LD E,(HL)`. -/
theorem test_L3 : after (start { cpu0 with h := 0xC1, l := 0x00 } [0x5E] [(0xC100, 0x5A)])
    (fun t => (t.cpu.f, t.cpu.e, t.cpu.pc, t.cycles)) = some (0x00, 0x5A, 0xC001, 2) := by decide

/-- L4 (R282): `LD A,(HL)`. -/
theorem test_L4 : after (start { cpu0 with h := 0xFE, l := 0xA0 } [0x7E] [])
    (fun t => (t.cpu.a, t.cpu.f, t.cpu.pc, t.cycles)) = some (0xFF, 0x00, 0xC001, 2) := by decide

/-- L5 (R283): `LD (HL),A`. -/
theorem test_L5 : after (start { cpu0 with h := 0xC0, l := 0x10, a := 0x99 } [0x77] [])
    (fun t => (t.cpu.f, t.cpu.pc, memRead t 0xC010, t.cycles)) = some (0x00, 0xC001, 0x99, 2) := by decide

/-- L7 (R284): `LD C,0x7F`. -/
theorem test_L7 : after (start cpu0 [0x0E, 0x7F] [])
    (fun t => (t.cpu.f, t.cpu.c, t.cpu.pc, t.cycles)) = some (0x00, 0x7F, 0xC002, 2) := by decide

/-- L8 (R285): `LD (HL),0xA5`. -/
theorem test_L8 : after (start { cpu0 with h := 0xC1, l := 0x00 } [0x36, 0xA5] [])
    (fun t => (t.cpu.f, t.cpu.pc, memRead t 0xC100, t.cycles)) = some (0x00, 0xC002, 0xA5, 3) := by decide

/-- L9 (R286): `LD A,(BC)`. -/
theorem test_L9 : after (start { cpu0 with b := 0xC2, c := 0x00 } [0x0A] [(0xC200, 0x01)])
    (fun t => (t.cpu.a, t.cpu.f, t.cpu.pc, t.cycles)) = some (0x01, 0x00, 0xC001, 2) := by decide

/-- L10 (R287): `LD A,(DE)`. -/
theorem test_L10 : after (start { cpu0 with d := 0xE0, e := 0x05 } [0x1A] [(0xC005, 0x6C)])
    (fun t => (t.cpu.a, t.cpu.f, t.cpu.pc, t.cycles)) = some (0x6C, 0x00, 0xC001, 2) := by decide

/-- L11 (R288): `LD (BC),A`. -/
theorem test_L11 : after (start { cpu0 with b := 0xC3, c := 0x00, a := 0x44 } [0x02] [])
    (fun t => (t.cpu.f, t.cpu.pc, memRead t 0xC300, t.cycles)) = some (0x00, 0xC001, 0x44, 2) := by decide

/-- L12 (R289): `LD (DE),A`. -/
theorem test_L12 : after (start { cpu0 with d := 0xFF, e := 0x80, a := 0x01 } [0x12] [])
    (fun t => (t.cpu.f, t.cpu.pc, memRead t 0xFF80, t.cycles)) = some (0x00, 0xC001, 0x01, 2) := by decide

/-- L13 (R290): `LD (HL+),A`. -/
theorem test_L13 : after (start { cpu0 with h := 0xFF, l := 0xFF, a := 0x1F } [0x22] [])
    (fun t => (t.cpu.f, t.cpu.h, t.cpu.l, t.cpu.pc, t.ieReg, t.cycles)) = some (0x00, 0x00, 0x00, 0xC001, 0x1F, 2) := by decide

/-- L14 (R291): `LD (HL-),A`. -/
theorem test_L14 : after (start { cpu0 with h := 0xC0, l := 0x00, a := 0x07 } [0x32] [])
    (fun t => (t.cpu.f, t.cpu.h, t.cpu.l, t.cpu.pc, memRead t 0xC000, t.cycles)) = some (0x00, 0xBF, 0xFF, 0xC001, 0x07, 2) := by decide

/-- L15 (R292): `LD A,(HL+)`. -/
theorem test_L15 : after (start { cpu0 with h := 0xC1, l := 0x00 } [0x2A] [(0xC100, 0xAB)])
    (fun t => (t.cpu.a, t.cpu.f, t.cpu.l, t.cpu.pc, t.cycles)) = some (0xAB, 0x00, 0x01, 0xC001, 2) := by decide

/-- L16 (R293): `LD A,(HL-)`. -/
theorem test_L16 : after (start { cpu0 with h := 0x00, l := 0x00 } [0x3A] [])
    (fun t => (t.cpu.f, t.cpu.h, t.cpu.l, t.cpu.pc, t.cycles)) = some (0x00, 0xFF, 0xFF, 0xC001, 2) := by decide

/-- L17 (R294): `LD A,(0xC123)`. -/
theorem test_L17 : after (start cpu0 [0xFA, 0x23, 0xC1] [(0xC123, 0x55)])
    (fun t => (t.cpu.a, t.cpu.f, t.cpu.pc, t.cycles)) = some (0x55, 0x00, 0xC003, 4) := by decide

/-- L18 (R295): `LD (0xFFFF),A`. -/
theorem test_L18 : after (start { cpu0 with a := 0x15 } [0xEA, 0xFF, 0xFF] [])
    (fun t => (t.cpu.f, t.cpu.pc, t.ieReg, t.cycles)) = some (0x00, 0xC003, 0x15, 4) := by decide

/-- L20 (R297): `LDH (0x41),A`. -/
theorem test_L20 : after { start { cpu0 with a := 0xFF } [0xE0, 0x41] [] with ppu := { Ppu.reset with stat := 0x05 } }
    (fun t => (t.cpu.f, t.cpu.pc, t.ppu.stat, t.cycles)) = some (0x00, 0xC002, 0x7D, 3) := by decide

/-- L23 (R298): `LDH A,(C)`. -/
theorem test_L23 : after { start { cpu0 with c := 0x00 } [0xF2] [] with joypad := { Joypad.reset with p1 := 0x20 } }
    (fun t => (t.cpu.a, t.cpu.f, t.cpu.pc, t.cycles)) = some (0xEF, 0x00, 0xC001, 2) := by decide

/-- L24 (R299): `LDH (C),A`. -/
theorem test_L24 : after { start { cpu0 with c := 0x0F, a := 0x00 } [0xE2] [] with ifReg := 0x1F }
    (fun t => (t.cpu.f, t.cpu.pc, t.ifReg, t.cycles)) = some (0x00, 0xC001, 0x00, 2) := by decide

/-- L26 (R300): `LD HL,0x1234`. -/
theorem test_L26 : after (start cpu0 [0x21, 0x34, 0x12] [])
    (fun t => (t.cpu.f, t.cpu.h, t.cpu.l, t.cpu.pc, t.cycles)) = some (0x00, 0x12, 0x34, 0xC003, 3) := by decide

/-- L28 (R301): `LD (0xFFFF),SP`. -/
theorem test_L28 : after { start { cpu0 with sp := 0xABCD } [0x08, 0xFF, 0xFF] [] with ieReg := 0x00 }
    (fun t => (t.cpu.f, t.cpu.pc, t.ieReg, t.cycles)) = some (0x00, 0xC003, 0xCD, 5) := by decide

/-- L29 (R302): `LD SP,HL`. -/
theorem test_L29 : after (start { cpu0 with h := 0xD0, l := 0x00 } [0xF9] [])
    (fun t => (t.cpu.f, t.cpu.sp, t.cpu.pc, t.cycles)) = some (0x00, 0xD000, 0xC001, 2) := by decide

/-- L30 (R303): `POP BC`. -/
theorem test_L30 : after (start { cpu0 with sp := 0xDFFC } [0xC1] [(0xDFFC, 0x3C), (0xDFFD, 0x12)])
    (fun t => (t.cpu.f, t.cpu.b, t.cpu.c, t.cpu.sp, t.cpu.pc, t.cycles)) = some (0x00, 0x12, 0x3C, 0xDFFE, 0xC001, 3) := by decide

/-- L31 (R303): `POP AF`. -/
theorem test_L31 : after (start { cpu0 with sp := 0xDFFC } [0xF1] [(0xDFFC, 0xFF), (0xDFFD, 0x12)])
    (fun t => (t.cpu.a, t.cpu.f, t.cpu.sp, t.cpu.pc, t.cycles)) = some (0x12, 0xF0, 0xDFFE, 0xC001, 3) := by decide

/-- L33 (R304): `PUSH BC`. -/
theorem test_L33 : after (start { cpu0 with sp := 0x0000, b := 0x12, c := 0x34 } [0xC5] [])
    (fun t => (t.cpu.f, t.cpu.sp, t.cpu.pc, memRead t 0xFFFE, t.ieReg, t.cycles)) = some (0x00, 0xFFFE, 0xC001, 0x34, 0x12, 4) := by decide

/-- L34 (R304): `PUSH AF`. -/
theorem test_L34 : after (start { cpu0 with sp := 0xDFFE, a := 0x12, f := 0xB0 } [0xF5] [])
    (fun t => (t.cpu.f, t.cpu.sp, t.cpu.pc, memRead t 0xDFFC, memRead t 0xDFFD, t.cycles)) = some (0xB0, 0xDFFC, 0xC001, 0xB0, 0x12, 4) := by decide

/-- A2 (R331): `ADD A,0x01`. -/
theorem test_A2 : after (start { cpu0 with a := 0xFF } [0xC6, 0x01] [])
    (fun t => (t.cpu.a, t.cpu.f, t.cpu.pc, t.cycles)) = some (0x00, 0xB0, 0xC002, 2) := by decide

/-- A4 (R331): `ADD A,(HL)`. -/
theorem test_A4 : after (start { cpu0 with a := 0x12, h := 0xC0, l := 0x10 } [0x86] [(0xC010, 0x86)])
    (fun t => (t.cpu.a, t.cpu.f, t.cpu.pc, t.cycles)) = some (0x98, 0x00, 0xC001, 2) := by decide

/-- A6 (R332): `ADC A,0x00`. -/
theorem test_A6 : after (start { cpu0 with a := 0xFF, f := 0x10 } [0xCE, 0x00] [])
    (fun t => (t.cpu.a, t.cpu.f, t.cpu.pc, t.cycles)) = some (0x00, 0xB0, 0xC002, 2) := by decide

/-- A9 (R333): `SUB A,0x01`. -/
theorem test_A9 : after (start { cpu0 with a := 0x00 } [0xD6, 0x01] [])
    (fun t => (t.cpu.a, t.cpu.f, t.cpu.pc, t.cycles)) = some (0xFF, 0x70, 0xC002, 2) := by decide

/-- A10 (R333): `SUB A,A`. -/
theorem test_A10 : after (start { cpu0 with a := 0x42 } [0x97] [])
    (fun t => (t.cpu.a, t.cpu.f, t.cpu.pc, t.cycles)) = some (0x00, 0xC0, 0xC001, 1) := by decide

/-- A11 (R334): `SBC A,0x00`. -/
theorem test_A11 : after (start { cpu0 with a := 0x00, f := 0x10 } [0xDE, 0x00] [])
    (fun t => (t.cpu.a, t.cpu.f, t.cpu.pc, t.cycles)) = some (0xFF, 0x70, 0xC002, 2) := by decide

/-- A12 (R334): `SBC A,0x0F`. -/
theorem test_A12 : after (start { cpu0 with a := 0x10, f := 0x10 } [0xDE, 0x0F] [])
    (fun t => (t.cpu.a, t.cpu.f, t.cpu.pc, t.cycles)) = some (0x00, 0xE0, 0xC002, 2) := by decide

/-- A13 (R335): `AND A,0xA5`. -/
theorem test_A13 : after (start { cpu0 with a := 0x5A } [0xE6, 0xA5] [])
    (fun t => (t.cpu.a, t.cpu.f, t.cpu.pc, t.cycles)) = some (0x00, 0xA0, 0xC002, 2) := by decide

/-- A14 (R336): `XOR A,A`. -/
theorem test_A14 : after (start { cpu0 with a := 0x5A, f := 0xF0 } [0xAF] [])
    (fun t => (t.cpu.a, t.cpu.f, t.cpu.pc, t.cycles)) = some (0x00, 0x80, 0xC001, 1) := by decide

/-- A15 (R337): `OR A,0x00`. -/
theorem test_A15 : after (start { cpu0 with a := 0x00, f := 0x70 } [0xF6, 0x00] [])
    (fun t => (t.cpu.f, t.cpu.pc, t.cycles)) = some (0x80, 0xC002, 2) := by decide

/-- A17 (R338): `CP A,0x40`. -/
theorem test_A17 : after (start { cpu0 with a := 0x3C } [0xFE, 0x40] [])
    (fun t => (t.cpu.f, t.cpu.pc, t.cycles)) = some (0x50, 0xC002, 2) := by decide

/-- A18 (R339): `INC A`. -/
theorem test_A18 : after (start { cpu0 with a := 0xFF, f := 0x10 } [0x3C] [])
    (fun t => (t.cpu.a, t.cpu.f, t.cpu.pc, t.cycles)) = some (0x00, 0xB0, 0xC001, 1) := by decide

/-- A20 (R339): `INC (HL)`. -/
theorem test_A20 : after (start { cpu0 with h := 0xC0, l := 0x10 } [0x34] [(0xC010, 0x0F)])
    (fun t => (t.cpu.f, t.cpu.pc, memRead t 0xC010, t.cycles)) = some (0x20, 0xC001, 0x10, 3) := by decide

/-- A21 (R340): `DEC B`. -/
theorem test_A21 : after (start { cpu0 with b := 0x10, f := 0x10 } [0x05] [])
    (fun t => (t.cpu.f, t.cpu.b, t.cpu.pc, t.cycles)) = some (0x70, 0x0F, 0xC001, 1) := by decide

/-- A23 (R341): `RLCA`. -/
theorem test_A23 : after (start { cpu0 with a := 0x80 } [0x07] [])
    (fun t => (t.cpu.a, t.cpu.f, t.cpu.pc, t.cycles)) = some (0x01, 0x10, 0xC001, 1) := by decide

/-- A25 (R342): `RRCA`. -/
theorem test_A25 : after (start { cpu0 with a := 0x01 } [0x0F] [])
    (fun t => (t.cpu.a, t.cpu.f, t.cpu.pc, t.cycles)) = some (0x80, 0x10, 0xC001, 1) := by decide

/-- A26 (R343): `RLA`. -/
theorem test_A26 : after (start { cpu0 with a := 0x80, f := 0x00 } [0x17] [])
    (fun t => (t.cpu.a, t.cpu.f, t.cpu.pc, t.cycles)) = some (0x00, 0x10, 0xC001, 1) := by decide

/-- A27 (R344): `RRA`. -/
theorem test_A27 : after (start { cpu0 with a := 0x01, f := 0x10 } [0x1F] [])
    (fun t => (t.cpu.a, t.cpu.f, t.cpu.pc, t.cycles)) = some (0x80, 0x10, 0xC001, 1) := by decide

/-- A35 (R345): `DAA`. -/
theorem test_A35 : after (start { cpu0 with a := 0xFA, f := 0x00 } [0x27] [])
    (fun t => (t.cpu.a, t.cpu.f, t.cpu.pc, t.cycles)) = some (0x60, 0x10, 0xC001, 1) := by decide

/-- A36 (R346): `CPL`. -/
theorem test_A36 : after (start { cpu0 with a := 0xFF, f := 0x00 } [0x2F] [])
    (fun t => (t.cpu.a, t.cpu.f, t.cpu.pc, t.cycles)) = some (0x00, 0x60, 0xC001, 1) := by decide

/-- A37 (R347): `SCF`. -/
theorem test_A37 : after (start { cpu0 with f := 0x70 } [0x37] [])
    (fun t => (t.cpu.f, t.cpu.pc, t.cycles)) = some (0x10, 0xC001, 1) := by decide

/-- A38 (R348): `CCF`. -/
theorem test_A38 : after (start { cpu0 with f := 0x10 } [0x3F] [])
    (fun t => (t.cpu.f, t.cpu.pc, t.cycles)) = some (0x00, 0xC001, 1) := by decide

/-- W1 (R381): `INC BC`. -/
theorem test_W1 : after (start { cpu0 with b := 0xFF, c := 0xFF, f := 0xF0 } [0x03] [])
    (fun t => (t.cpu.f, t.cpu.b, t.cpu.c, t.cpu.pc, t.cycles)) = some (0xF0, 0x00, 0x00, 0xC001, 2) := by decide

/-- W2 (R381): `INC SP`. -/
theorem test_W2 : after (start { cpu0 with sp := 0xFFFF } [0x33] [])
    (fun t => (t.cpu.f, t.cpu.sp, t.cpu.pc, t.cycles)) = some (0x00, 0x0000, 0xC001, 2) := by decide

/-- W3 (R382): `DEC DE`. -/
theorem test_W3 : after (start { cpu0 with d := 0x00, e := 0x00, f := 0x00 } [0x1B] [])
    (fun t => (t.cpu.f, t.cpu.d, t.cpu.e, t.cpu.pc, t.cycles)) = some (0x00, 0xFF, 0xFF, 0xC001, 2) := by decide

/-- W4 (R382): `DEC SP`. -/
theorem test_W4 : after (start { cpu0 with sp := 0x0000 } [0x3B] [])
    (fun t => (t.cpu.f, t.cpu.sp, t.cpu.pc, t.cycles)) = some (0x00, 0xFFFF, 0xC001, 2) := by decide

/-- W5 (R383): `ADD HL,BC`. -/
theorem test_W5 : after (start { cpu0 with h := 0x8A, l := 0x23, b := 0x06, c := 0x05 } [0x09] [])
    (fun t => (t.cpu.f, t.cpu.h, t.cpu.l, t.cpu.pc, t.cycles)) = some (0x20, 0x90, 0x28, 0xC001, 2) := by decide

/-- W6 (R383): `ADD HL,HL`. -/
theorem test_W6 : after (start { cpu0 with h := 0x8A, l := 0x23 } [0x29] [])
    (fun t => (t.cpu.f, t.cpu.h, t.cpu.l, t.cpu.pc, t.cycles)) = some (0x30, 0x14, 0x46, 0xC001, 2) := by decide

/-- W7 (R383): `ADD HL,DE`. -/
theorem test_W7 : after (start { cpu0 with h := 0x0F, l := 0xFF, d := 0x00, e := 0x01, f := 0x80 } [0x19] [])
    (fun t => (t.cpu.f, t.cpu.h, t.cpu.l, t.cpu.pc, t.cycles)) = some (0xA0, 0x10, 0x00, 0xC001, 2) := by decide

/-- W8 (R383): `ADD HL,SP`. -/
theorem test_W8 : after (start { cpu0 with h := 0xFF, l := 0xFF, sp := 0x0001, f := 0x00 } [0x39] [])
    (fun t => (t.cpu.f, t.cpu.h, t.cpu.l, t.cpu.pc, t.cycles)) = some (0x30, 0x00, 0x00, 0xC001, 2) := by decide

/-- W12 (R384): `ADD SP,0xFF`. -/
theorem test_W12 : after (start { cpu0 with sp := 0x0001 } [0xE8, 0xFF] [])
    (fun t => (t.cpu.f, t.cpu.sp, t.cpu.pc, t.cycles)) = some (0x30, 0x0000, 0xC002, 4) := by decide

/-- W13 (R384): `ADD SP,0x01`. -/
theorem test_W13 : after (start { cpu0 with sp := 0xFFFF, f := 0xF0 } [0xE8, 0x01] [])
    (fun t => (t.cpu.f, t.cpu.sp, t.cpu.pc, t.cycles)) = some (0x30, 0x0000, 0xC002, 4) := by decide

/-- W15 (R385): `LD HL,SP+0x80`. -/
theorem test_W15 : after (start { cpu0 with sp := 0xDFFF } [0xF8, 0x80] [])
    (fun t => (t.cpu.f, t.cpu.h, t.cpu.l, t.cpu.pc, t.cycles)) = some (0x10, 0xDF, 0x7F, 0xC002, 3) := by decide

/-- B1 (R401): `RLC B`. -/
theorem test_B1 : after (start { cpu0 with b := 0x85 } [0xCB, 0x00] [])
    (fun t => (t.cpu.f, t.cpu.b, t.cpu.pc, t.cycles)) = some (0x10, 0x0B, 0xC002, 2) := by decide

/-- B3 (R401): `RLC (HL)`. -/
theorem test_B3 : after (start { cpu0 with h := 0xC0, l := 0x10 } [0xCB, 0x06] [(0xC010, 0x80)])
    (fun t => (t.cpu.f, t.cpu.pc, memRead t 0xC010, t.cycles)) = some (0x10, 0xC002, 0x01, 4) := by decide

/-- B4 (R402): `RRC C`. -/
theorem test_B4 : after (start { cpu0 with c := 0x01 } [0xCB, 0x09] [])
    (fun t => (t.cpu.f, t.cpu.c, t.cpu.pc, t.cycles)) = some (0x10, 0x80, 0xC002, 2) := by decide

/-- B5 (R403): `RL L`. -/
theorem test_B5 : after (start { cpu0 with l := 0x80, f := 0x00 } [0xCB, 0x15] [])
    (fun t => (t.cpu.f, t.cpu.l, t.cpu.pc, t.cycles)) = some (0x90, 0x00, 0xC002, 2) := by decide

/-- B8 (R404): `RR (HL)`. -/
theorem test_B8 : after (start { cpu0 with h := 0xC0, l := 0x10, f := 0x10 } [0xCB, 0x1E] [(0xC010, 0x00)])
    (fun t => (t.cpu.f, t.cpu.pc, memRead t 0xC010, t.cycles)) = some (0x00, 0xC002, 0x80, 4) := by decide

/-- B9 (R405): `SLA D`. -/
theorem test_B9 : after (start { cpu0 with d := 0xFF } [0xCB, 0x22] [])
    (fun t => (t.cpu.f, t.cpu.d, t.cpu.pc, t.cycles)) = some (0x10, 0xFE, 0xC002, 2) := by decide

/-- B10 (R406): `SRA A`. -/
theorem test_B10 : after (start { cpu0 with a := 0x8A } [0xCB, 0x2F] [])
    (fun t => (t.cpu.a, t.cpu.f, t.cpu.pc, t.cycles)) = some (0xC5, 0x00, 0xC002, 2) := by decide

/-- B12 (R407): `SWAP A`. -/
theorem test_B12 : after (start { cpu0 with a := 0xF1, f := 0x70 } [0xCB, 0x37] [])
    (fun t => (t.cpu.a, t.cpu.f, t.cpu.pc, t.cycles)) = some (0x1F, 0x00, 0xC002, 2) := by decide

/-- B14 (R408): `SRL A`. -/
theorem test_B14 : after (start { cpu0 with a := 0x01 } [0xCB, 0x3F] [])
    (fun t => (t.cpu.a, t.cpu.f, t.cpu.pc, t.cycles)) = some (0x00, 0x90, 0xC002, 2) := by decide

/-- B16 (R409): `BIT 0,H`. -/
theorem test_B16 : after (start { cpu0 with h := 0x80, f := 0x10 } [0xCB, 0x44] [])
    (fun t => (t.cpu.f, t.cpu.pc, t.cycles)) = some (0xB0, 0xC002, 2) := by decide

/-- B17 (R409): `BIT 7,(HL)`. -/
theorem test_B17 : after (start { cpu0 with h := 0xC0, l := 0x10, f := 0x40 } [0xCB, 0x7E] [(0xC010, 0x7F)])
    (fun t => (t.cpu.f, t.cpu.pc, t.cycles)) = some (0xA0, 0xC002, 3) := by decide

/-- B20 (R410): `RES 0,(HL)`. -/
theorem test_B20 : after (start { cpu0 with h := 0xC0, l := 0x10, f := 0xF0 } [0xCB, 0x86] [(0xC010, 0xFF)])
    (fun t => (t.cpu.f, t.cpu.pc, memRead t 0xC010, t.cycles)) = some (0xF0, 0xC002, 0xFE, 4) := by decide

/-- B21 (R411): `SET 1,E`. -/
theorem test_B21 : after (start { cpu0 with e := 0x00 } [0xCB, 0xCB] [])
    (fun t => (t.cpu.f, t.cpu.e, t.cpu.pc, t.cycles)) = some (0x00, 0x02, 0xC002, 2) := by decide

/-- B22 (R411): `SET 7,(HL)`. -/
theorem test_B22 : after (start { cpu0 with h := 0xC0, l := 0x10, f := 0xF0 } [0xCB, 0xFE] [(0xC010, 0x00)])
    (fun t => (t.cpu.f, t.cpu.pc, memRead t 0xC010, t.cycles)) = some (0xF0, 0xC002, 0x80, 4) := by decide

/-- J1 (R431): `JP 0x0150`. -/
theorem test_J1 : after (start cpu0 [0xC3, 0x50, 0x01] [])
    (fun t => (t.cpu.f, t.cpu.pc, t.cycles)) = some (0x00, 0x0150, 4) := by decide

/-- J2 (R432): `JP Z,0x4000`. -/
theorem test_J2 : after (start { cpu0 with f := 0x80 } [0xCA, 0x00, 0x40] [])
    (fun t => (t.cpu.f, t.cpu.pc, t.cycles)) = some (0x80, 0x4000, 4) := by decide

/-- J4 (R432): `JP NC,0x4000`. -/
theorem test_J4 : after (start { cpu0 with f := 0x10 } [0xD2, 0x00, 0x40] [])
    (fun t => (t.cpu.f, t.cpu.pc, t.cycles)) = some (0x10, 0xC003, 3) := by decide

/-- J5 (R433): `JP HL`. -/
theorem test_J5 : after (start { cpu0 with h := 0x12, l := 0x34 } [0xE9] [])
    (fun t => (t.cpu.f, t.cpu.pc, t.cycles)) = some (0x00, 0x1234, 1) := by decide

/-- J8 (R434): `JR 0x80`. -/
theorem test_J8 : after (start cpu0 [0x18, 0x80] [])
    (fun t => (t.cpu.f, t.cpu.pc, t.cycles)) = some (0x00, 0xBF82, 3) := by decide

/-- J9 (R435): `JR NZ,0xFC`. -/
theorem test_J9 : after (start { cpu0 with f := 0x00 } [0x20, 0xFC] [])
    (fun t => (t.cpu.f, t.cpu.pc, t.cycles)) = some (0x00, 0xBFFE, 3) := by decide

/-- J10 (R435): `JR NZ,0xFC`. -/
theorem test_J10 : after (start { cpu0 with f := 0x80 } [0x20, 0xFC] [])
    (fun t => (t.cpu.f, t.cpu.pc, t.cycles)) = some (0x80, 0xC002, 2) := by decide

/-- J12 (R436): `CALL 0x1234`. -/
theorem test_J12 : after (start { cpu0 with sp := 0xFFFE } [0xCD, 0x34, 0x12] [])
    (fun t => (t.cpu.f, t.cpu.sp, t.cpu.pc, memRead t 0xFFFC, memRead t 0xFFFD, t.cycles)) = some (0x00, 0xFFFC, 0x1234, 0x03, 0xC0, 6) := by decide

/-- J13 (R437): `CALL C,0x1234`. -/
theorem test_J13 : after (start { cpu0 with sp := 0xFFFE, f := 0x00 } [0xDC, 0x34, 0x12] [])
    (fun t => (t.cpu.f, t.cpu.pc, t.cycles)) = some (0x00, 0xC003, 3) := by decide

/-- J14 (R437): `CALL NZ,0x1234`. -/
theorem test_J14 : after (start { cpu0 with sp := 0xFFFE, f := 0x00 } [0xC4, 0x34, 0x12] [])
    (fun t => (t.cpu.f, t.cpu.sp, t.cpu.pc, memRead t 0xFFFC, memRead t 0xFFFD, t.cycles)) = some (0x00, 0xFFFC, 0x1234, 0x03, 0xC0, 6) := by decide

/-- J15 (R438): `RET`. -/
theorem test_J15 : after (start { cpu0 with sp := 0xFFFC } [0xC9] [(0xFFFC, 0x53), (0xFFFD, 0x01)])
    (fun t => (t.cpu.f, t.cpu.sp, t.cpu.pc, t.cycles)) = some (0x00, 0xFFFE, 0x0153, 4) := by decide

/-- J16 (R439): `RET NZ`. -/
theorem test_J16 : after (start { cpu0 with sp := 0xFFFC, f := 0x80 } [0xC0] [(0xFFFC, 0x53), (0xFFFD, 0x01)])
    (fun t => (t.cpu.f, t.cpu.pc, t.cycles)) = some (0x80, 0xC001, 2) := by decide

/-- J17 (R439): `RET Z`. -/
theorem test_J17 : after (start { cpu0 with sp := 0xFFFC, f := 0x80 } [0xC8] [(0xFFFC, 0x53), (0xFFFD, 0x01)])
    (fun t => (t.cpu.f, t.cpu.sp, t.cpu.pc, t.cycles)) = some (0x80, 0xFFFE, 0x0153, 5) := by decide

/-- J18 (R440): `RST 0x28`. -/
theorem test_J18 : after (start { cpu0 with sp := 0xFFFE } [0xEF] [])
    (fun t => (t.cpu.f, t.cpu.sp, t.cpu.pc, memRead t 0xFFFC, memRead t 0xFFFD, t.cycles)) = some (0x00, 0xFFFC, 0x0028, 0x01, 0xC0, 4) := by decide

/-- J20 (R444): `RETI`. -/
theorem test_J20 : after (start { cpu0 with sp := 0xFFFC, ime := false, eiPending := true } [0xD9] [(0xFFFC, 0x00), (0xFFFD, 0x02)])
    (fun t => (t.cpu.f, t.cpu.sp, t.cpu.pc, t.cpu.ime, t.cpu.eiPending, t.cycles)) = some (0x00, 0xFFFE, 0x0200, true, false, 4) := by decide

/-- S1 (R460): `NOP`. -/
theorem test_S1 : after (start cpu0 [0x00] [])
    (fun t => (t.cpu.f, t.cpu.pc, t.cycles)) = some (0x00, 0xC001, 1) := by decide

/-- S6 (R462): `STOP`. -/
theorem test_S6 : after (start cpu0 [0x10, 0x00] [])
    (fun t => (t.cpu.f, t.cpu.pc, t.cycles)) = some (0x00, 0xC002, 1) := by decide

/-- S8 (R463): `EI`. -/
theorem test_S8 : after (start { cpu0 with ime := false } [0xFB] [])
    (fun t => (t.cpu.f, t.cpu.pc, t.cpu.eiPending, t.cycles)) = some (0x00, 0xC001, true, 1) := by decide

/-- S11 (R464): `DI`. -/
theorem test_S11 : after (start { cpu0 with ime := true } [0xF3] [])
    (fun t => (t.cpu.f, t.cpu.pc, t.cpu.ime, t.cycles)) = some (0x00, 0xC001, false, 1) := by decide

/-- I1 (R505): `NOP`. -/
theorem test_I1 : after { start { cpu0 with ime := true, sp := 0xDFFE } [0x00] [] with ieReg := 0x1F, ifReg := 0x16 }
    (fun t => (t.cpu.sp, t.cpu.pc, t.cpu.ime, memRead t 0xDFFD, t.ifReg, t.cycles)) = some (0xDFFC, 0x0048, false, 0xC0, 0x14, 5) := by decide

/-- I2 (R504): `NOP`. -/
theorem test_I2 : after { start { cpu0 with ime := true, sp := 0xDFFE } [0x00] [] with ieReg := 0xE0, ifReg := 0xE0 }
    (fun t => (t.cpu.f, t.cpu.pc, t.cycles)) = some (0x00, 0xC001, 1) := by decide

/-- I6 (R506): `NOP`. -/
theorem test_I6 : after { start { cpu0 with ime := true, sp := 0x0001 } [0x00] [] with ieReg := 0x01, ifReg := 0x01 }
    (fun t => (t.cpu.sp, t.cpu.pc, t.cpu.ime, t.ifReg, t.ieReg, t.cycles)) = some (0xFFFF, 0x0040, false, 0x00, 0x00, 5) := by decide

/-- I8 (R506): `NOP`. -/
theorem test_I8 : after { start { cpu0 with ime := false, eiPending := true, sp := 0xDFFE } [0x00] [] with ieReg := 0x04, ifReg := 0x04 }
    (fun t => (t.cpu.f, t.cpu.pc, t.cpu.ime, t.cpu.eiPending, t.cycles)) = some (0x00, 0xC001, true, false, 1) := by decide
theorem test_S5_stop_refuses :
    cpuStep { (start cpu0 [0x10, 0x00] []) with stopMode := .refuse } = .refused .stopRefused := rfl

theorem test_illegal_locks : after (start cpu0 [0xDD, 0x3C] []) (fun t => (t.cpu.locked, t.cpu.a, t.cpu.pc, t.cycles)) =
    some (true, 0x00, 0xC001, 1) := by decide

theorem test_S13_prefix_row : exec (.prefixCb 0x00) { State.reset with cpu := { cpu0 with b := 0x01 } } =
    .next { State.reset with cpu := { cpu0 with b := 0x02 }, cycles := 2 } := rfl

/-! ### The bus and the cartridge (95_test_vectors.md sections 13 and 14) -/

/-- The cartridge RAM and controller vectors' cartridge: banks whose byte 0 is the bank number. -/
def bankedCart (m : Mbc) (banks ramLen : Nat) : Cart :=
  { rom := Memory.write (Memory.write (Memory.write [] 0x4000 1) 0x8000 2) 0xC000 3, romLen := banks * 0x4000
    romSize := banks * 0x4000, ram := [], ramLen := ramLen, mbc := m }

theorem test_M2_ram : cartRead (cartWrite { Cart.reset with ramLen := 0x2000 } 0xA123 0x5A) 0xA123 = 0x5A ∧
    cartRead Cart.reset 0xA000 = 0xFF := by decide

theorem test_M4_controllerA :
    let c := bankedCart (.a mbcAInit) 2 0
    cartRead (cartWrite c 0x2000 0x00) 0x4000 = 1 ∧ cartRead (cartWrite c 0x2000 0x02) 0x4000 = 0 ∧
      cartRead (cartWrite c 0x2000 0x03) 0x4000 = 1 := by decide

theorem test_M8_controllerB :
    let c := cartWrite (cartWrite (bankedCart (.b mbcBInit) 4 512) 0x2100 0x03) 0x0000 0x0A
    cartRead c 0x4000 = 3 ∧ cartRead (cartWrite c 0xA000 0xAB) 0xBE00 = 0xFB := by decide

theorem test_M11_clock :
    let c := cartWrite (cartWrite (cartWrite (bankedCart (.c (mbcCInit true)) 2 8192) 0 0x0A) 0x4000 0x08) 0xA000 0xFF
    cartRead c 0xA000 = 0x00 ∧ cartRead (cartWrite (cartWrite c 0x6000 0x00) 0x6000 0x01) 0xA000 = 0x3F := by decide

theorem test_M12_unknown : cartRead (bankedCart .unknown 2 0) 0x0147 = 0xFF := by decide

theorem test_M14_M15_errors :
    (createCart { cartRom := List.replicate 0x14F 0, bootMode := .skipBoot } = .error .truncatedHeader) ∧
      romSizeOfCode 0x09 = none :=
  ⟨if_pos (by rw [List.length_replicate]; decide), rfl⟩

theorem test_M16_echo : memRead (memWrite State.reset 0xC005 0x11) 0xE005 = 0x11 ∧
    memRead (memWrite State.reset 0xFDFF 0x22) 0xDDFF = 0x22 := by decide

theorem test_M17_gap : memRead (memWrite State.reset 0xFEA0 0x33) 0xFEA0 = 0xFF := by decide

theorem test_M18_ly : memRead (memWrite State.reset 0xFF44 0x55) 0xFF44 = 0x00 := by decide

set_option maxRecDepth 4096 in
theorem test_M24_dma :
    let s := memWrite (memWrite State.reset 0xC101 0x5C) 0xC19F 0x9F
    memRead (memWrite s 0xFF46 0xC1) 0xFE01 = 0x5C ∧ memRead (memWrite s 0xFF46 0xC1) 0xFE9F = 0x9F := by decide

theorem test_M26_boot :
    let s := { State.reset with bootMapped := true, bootRom := [(0, 0x31)] }
    memRead s 0x0000 = 0x31 ∧ memRead (memWrite s 0x0000 0x0A) 0x0000 = 0x31 ∧
      memRead (memWrite s 0xFF50 0x00) 0x0000 = 0x00 := by decide

theorem test_Z1_reset : memRead State.reset 0xFF41 = 0x86 ∧ memRead State.reset 0xFF00 = 0xCF ∧
    State.reset.cpu.pc = 0x0100 := by decide

/-! ### PPU, timer and joypad (95_test_vectors.md sections 10 to 12) -/

theorem test_P1_mode3 :
    let t := ppuDot { State.reset with ppu := { Ppu.reset with dot := 79 } }
    (t.ppu.mode, t.ppu.ly, t.ppu.dot) = (.pixelDraw, 0, 80) := by decide

theorem test_P8_vblank :
    let t := ppuDot { State.reset with ifReg := 0, ppu := { Ppu.reset with mode := .hblank, ly := 143, dot := 455 } }
    (t.ppu.mode, t.ppu.ly, t.ppu.dot, t.ppu.frameReady, t.ifReg) = (.vblank, 144, 0, true, 0x01) := by decide

theorem test_P15_coincidence :
    let t := ppuDot { State.reset with
      ifReg := 0, ppu := { Ppu.reset with mode := .hblank, ly := 1, lyc := 2, dot := 455, stat := 0x40 } }
    (t.ppu.ly, t.ppu.stat, t.ifReg) = (2, 0x46, 0x02) := by decide

/-- The render vectors' tiles: row 0 of tile 1 is all index 1, of tile 2 all index 2. -/
def tiles : Memory := Memory.write (Memory.write [] 0x10 0xFF) 0x21 0xFF

theorem test_P22_background :
    let p := { Ppu.reset with bgp := 0xE4 }
    let v := Memory.write tiles 0x1800 1
    (backgroundPixel p v 0 7).shade = 1 ∧ (backgroundPixel p v 0 8).shade = 0 := by decide

theorem test_P27_window :
    let p := { Ppu.reset with lcdc := 0xB1, wx := 87, wy := 0, bgp := 0xE4 }
    let v := Memory.write tiles 0x1800 2
    (renderPixel p v [] 0 79).shade = 0 ∧ (renderPixel p v [] 0 80).shade = 2 := by decide

theorem test_P33_priority :
    let p := { Ppu.reset with lcdc := 0x93, bgp := 0xE4, obp0 := 0xE4, spriteList := [0, 1] }
    let oam := Memory.ofBytes 0 [16, 12, 1, 0, 16, 10, 2, 0]
    (renderPixel p tiles oam 0 4).shade = 2 ∧ (renderPixel p tiles oam 0 10).shade = 1 := by decide

theorem test_P41_selection : ∀ n < 9, (0 ∈ selectSprites { Ppu.reset with ly := BitVec.ofNat 8 n } [(0, 17)]) =
    (1 ≤ n ∧ n ≤ 8) := by decide

theorem test_T2_div : (timerCycle { State.reset with timer := { Timer.reset with divCounter := 63 } }).timer.div = 1 := by
  decide

theorem test_T5_overflow :
    let t := timerCycle { State.reset with
      ifReg := 0, timer := { Timer.reset with tac := 0x05, tima := 0xFF, tma := 0xAB, timaCounter := 3 } }
    (t.timer.tima, t.ifReg) = (0xAB, 0x04) := by decide

theorem test_K6_press :
    let s := hostAct (.press .right) (hostAct (.press .a) { State.reset with ifReg := 0 })
    (memRead s 0xFF00, s.ifReg) = (0xCE, 0x10) := by decide

theorem test_K9_release : memRead (hostAct .releaseAll (hostAct (.press .b)
    { State.reset with joypad := { Joypad.reset with p1 := 0x10 } })) 0xFF00 = 0xDF := by decide

/-! ### Witnesses: each statement's hypotheses, met together by concrete data -/

theorem witness_DecodeEncode : WellFormed (.jpCN16 0x8000) = true ∧ encode (.jpCN16 0x8000) = [0xDA, 0x00, 0x80] := by
  decide

theorem witness_DecodeFields : ¬ (R8.atHl = .atHl ∧ R8.reg .b = .atHl) := by decide

/-- The three forms, for an operation of each of the three ALU statements. -/
theorem witness_AluForm (s : State) :
    AluForm .adc s .adcAB [0x88] s.cpu.b 1 ∧ AluForm .sbc s .sbcAAtHl [0x9E] (memRead s s.cpu.hl) 2 ∧
      AluForm .or s (.orAN8 0xFF) [0xF6, 0xFF] 0xFF 2 ∧ AluForm .add s .addAA [0x87] s.cpu.a 1 ∧
      AluForm .sub s .subAL [0x95] s.cpu.l 1 ∧ AluForm .cp s (.cpAN8 0) [0xFE, 0] 0 2 ∧
      AluForm .and s .andAAtHl [0xA6] (memRead s s.cpu.hl) 2 ∧ AluForm .xor s .xorAH [0xAC] s.cpu.h 1 :=
  ⟨.register .b, .memory, .immediate 0xFF, .register .a, .register .l, .immediate 0, .memory, .register .h⟩

theorem witness_StopModes : State.reset.stopMode = .nop2 ∧ { State.reset with stopMode := .refuse }.stopMode = .refuse := by
  decide

theorem witness_IllegalOpcodes : (Instr.illegalD3, (0xD3 : Byte)) ∈
    ([(.illegalD3, 0xD3), (.illegalDB, 0xDB), (.illegalDD, 0xDD), (.illegalE3, 0xE3), (.illegalE4, 0xE4),
      (.illegalEB, 0xEB), (.illegalEC, 0xEC), (.illegalED, 0xED), (.illegalF4, 0xF4), (.illegalFC, 0xFC),
      (.illegalFD, 0xFD)] : List (Instr × Byte)) := by decide

/-- A running CPU at reset, about to run NOP. -/
theorem witness_StepRunsDecoded :
    let s := State.reset
    s.cpu.locked = false ∧ (s.cpu.ime = false ∨ s.ieReg &&& s.ifReg &&& 0x1F = 0) ∧
      (s.cpu.halted = false ∨ s.ieReg &&& s.ifReg &&& 0x1F ≠ 0) ∧
      decode [memRead s s.cpu.pc, memRead s (s.cpu.pc + 1), memRead s (s.cpu.pc + 2)] = .ok (.nop, [0, 0]) := by decide

/-- A halted CPU that a pending request wakes with IME clear, about to run a three-byte instruction at the top of memory. -/
theorem witness_StepRunsDecoded_woken :
    let s := { (start { cpu0 with halted := true, pc := 0xFFFE } [] [(0xFFFE, 0xC3)]) with ieReg := 0x01, ifReg := 0x01 }
    s.cpu.locked = false ∧ s.cpu.ime = false ∧ s.ieReg &&& s.ifReg &&& 0x1F ≠ 0 ∧
      decode [memRead s s.cpu.pc, memRead s (s.cpu.pc + 1), memRead s (s.cpu.pc + 2)] = .ok (.jpN16 0x0001, []) := by
  decide

theorem witness_DispatchInterrupt :
    let s := { State.reset with cpu := { Cpu.reset with ime := true }, ieReg := 0x1F, ifReg := 0x1F }
    let u := { s with ifReg := 0x10 }
    s.cpu.locked = false ∧ s.cpu.ime = true ∧ (s.ieReg &&& s.ifReg).getLsbD 0 = true ∧
      (u.ieReg &&& u.ifReg).getLsbD 4 = true ∧ ∀ j < 4, (u.ieReg &&& u.ifReg).getLsbD j = false := by decide

theorem witness_HaltedLocked :
    let s := { State.reset with cpu := { Cpu.reset with halted := true } }
    ({ State.reset with cpu := { Cpu.reset with locked := true } }).cpu.locked = true ∧ s.cpu.locked = false ∧
      s.cpu.halted = true ∧ s.ieReg &&& s.ifReg &&& 0x1F = 0 := by decide

theorem witness_SystemStep : cpuStep State.reset =
      .next { State.reset with cpu := { Cpu.reset with pc := 0x0101 }, cycles := 1 } ∧
    cpuStep { (start cpu0 [0x10, 0x00] []) with stopMode := .refuse } = .refused .stopRefused := ⟨rfl, rfl⟩

/-- A step that answers a next state (HALT with nothing pending costs one cycle and no CPU change). -/
theorem witness_StepKeeps : ∃ t, step { State.reset with cpu := { Cpu.reset with locked := true } } = .next t :=
  ⟨_, rfl⟩

/-- What `LD (HL),A` stores to. -/
theorem storesTo_ldAtHlA (s : State) (a : Word) (h : StoresTo s .ldAtHlA a) : a = s.cpu.hl := by
  generalize hi : Instr.ldAtHlA = i at h
  cases h with
  | ldRegister r => rfl
  | ldPair m => cases m <;> cases hi
  | push r => cases r <;> cases hi
  | callTaken cc => cases cc <;> cases hi
  | rst t => cases t <;> cases hi
  | rotate op => cases op <;> cases hi
  | res b => cases b <;> cases hi
  | set b => cases b <;> cases hi
  | _ => cases hi

/-- A store to 0xC010, and an address it does not reach. -/
theorem witness_MemoryFrame :
    let s := start { cpu0 with h := 0xC0, l := 0x10, a := 0x99 } [] []
    (∃ t, exec .ldAtHlA s = .next t) ∧
      ∀ a, StoresTo s .ldAtHlA a → ¬ StoreReaches (mirrorsRam s.cart.mbc) a 0xC011 :=
  ⟨⟨_, rfl⟩, fun a h => by
    rw [storesTo_ldAtHlA _ a h, StoreReaches, if_neg (by decide), if_neg (by decide), if_neg (by decide),
      if_neg (by decide)]
    decide⟩

/-- The echo's, the gap's and the boot window's first and last addresses. -/
theorem witness_BusRegions : (0xE000 ≤ (0xE000 : Word).toNat ∧ (0xE000 : Word).toNat < 0xFE00) ∧
    (0xE000 ≤ (0xFDFF : Word).toNat ∧ (0xFDFF : Word).toNat < 0xFE00) ∧
    (0xFEA0 ≤ (0xFEA0 : Word).toNat ∧ (0xFEFF : Word).toNat < 0xFF00) ∧ (0x00FF : Word).toNat < 0x0100 ∧
    { State.reset with bootMapped := true }.bootMapped = true := by decide

theorem memInv_reset : MemInv State.reset := by
  refine ⟨?_, ?_, ?_, ?_, ?_, ?_⟩ <;> decide

/-- The first and the last address, and the first I/O register. -/
theorem witness_RoundTrip : MemInv State.reset ∧
    (0x8000 ≤ (0x8000 : Word).toNat ∧ (0x8000 : Word).toNat < 0xA000) ∧ 0xFF00 ≤ (0xFFFF : Word).toNat ∧
    (0xC000 ≤ (0xFE9F : Word).toNat ∧ (0xFE9F : Word).toNat < 0xFEA0) ∧
    (0xFF01 : Word) ≠ 0xFF00 ∧ (0xFF40 : Word) ≠ 0xFF41 ∧ (0xFF45 : Word) ≠ 0xFF44 :=
  ⟨memInv_reset, by decide, by decide, by decide, by decide, by decide, by decide⟩

/-- OAM's last byte is in range. -/
theorem witness_DmaCopy : MemInv State.reset ∧ 159 < 160 := ⟨memInv_reset, by decide⟩

/-- The three controllers, and both ends of the switchable window. -/
theorem witness_RomBanks : ∀ m ∈ [Mbc.a mbcAInit, .b mbcBInit, .c (mbcCInit true)],
    (bankedCart m 4 512).romSize = 0x8000 <<< 1 ∧ (bankedCart m 4 512).mbc = m ∧ 0x4000 ≤ 0x7FFF ∧ 0x7FFF < 0x8000 := by
  decide

/-- Controller C's RTC latch at the last register address: both halves of the condition. -/
theorem witness_ControllerWrites : 0x7FFF < 0x8000 ∧
    cartWrite { Cart.reset with mbc := .c { mbcCInit true with latchLast := 0 } } 0x7FFF 1 =
      { Cart.reset with mbc := .c { mbcCInit true with latchLast := 1 } } := by decide

theorem cartInv_banked (m : Mbc) (h : MbcInv (bankedCart m 4 512)) : CartInv (bankedCart m 4 512) :=
  ⟨(by decide : Memory.wf (bankedCart .none 4 512).rom), (by decide : Memory.within (bankedCart .none 4 512).rom 0x10000),
    (by decide : Memory.wf []), (by decide : Memory.within [] 512), h⟩

/-- Every variant's cartridge meets the invariant, with RAM enabled and with a clock register selected. -/
theorem witness_CartridgeRam :
    CartInv (bankedCart .none 4 512) ∧ CartInv (bankedCart (.a { mbcAInit with ramEnable := true }) 4 512) ∧
      CartInv (bankedCart (.b { mbcBInit with ramEnable := true }) 4 512) ∧
      CartInv (bankedCart (.c { mbcCInit true with ramEnable := true, sel := 0x0C }) 4 512) ∧
      CartInv (bankedCart .unknown 4 512) ∧ 0xA000 - 0xA000 < 512 ∧
      mbcARamOffset (bankedCart .none 4 512) mbcAInit 0xA1FF < 512 ∧
      mbcCRamOffset (bankedCart .none 4 512) (mbcCInit true) 0xA1FF < 512 :=
  ⟨cartInv_banked _ trivial, cartInv_banked _ (by decide : (1 : BitVec 5) ≠ 0),
    cartInv_banked _ ⟨(by decide : (1 : BitVec 4) ≠ 0), rfl⟩, cartInv_banked _ (by decide : (1 : BitVec 7) ≠ 0),
    cartInv_banked _ trivial, by decide, by decide, by decide⟩

theorem witness_LcdOff : { State.reset with ppu := { Ppu.reset with lcdc := 0x11 } }.ppu.lcdc.getLsbD 7 = false := by decide

/-- The reset position, and the last dot of the frame. -/
theorem witness_FrameTiming : State.reset.ppu.lcdc.getLsbD 7 = true ∧ InPosition State.reset.ppu ∧
    InPosition { Ppu.reset with mode := .vblank, ly := 153, dot := 455 } :=
  ⟨by decide, ⟨by decide, by decide⟩, by decide, by decide, by decide⟩

theorem witness_DotStatus : State.reset.ppu.lcdc.getLsbD 7 = true := by decide

theorem witness_BackgroundLine :
    let p := { Ppu.reset with ly := 143 }
    p.framebuffer.length = 144 ∧ p.ly.toNat < 144 ∧ 159 < 160 ∧ p.lcdc.getLsbD 1 = false ∧ p.lcdc.getLsbD 5 = false := by
  refine ⟨List.length_replicate, ?_, ?_, ?_, ?_⟩ <;> decide

/-- The highest line of P1's low nibble. -/
theorem witness_JoypadActions : 3 < 4 := by decide

theorem witness_DividerRate : ({ Timer.reset with divCounter := 63 }).divCounter < 64 := by decide

theorem witness_TimaCycle :
    ({ Timer.reset with tac := 0x07, timaCounter := 63 }).tac.getLsbD 2 = true ∧
      Timer.reset.tac.getLsbD 2 = false ∧
      0 < max 1 (([256, 4, 16, 64] : List Nat).getD ((0x07 : Byte).toNat % 4) 0 - 64) := by decide

theorem create_blank (m : BootMode) : ∃ s, create { cartRom := List.replicate 0x150 0, bootMode := m } = .ok s := by
  have hb : ∀ i, byteAt (List.replicate 0x150 0) i = 0 := fun i => by
    unfold byteAt; rw [List.getD_eq_getElem?_getD, List.getElem?_replicate]; split <;> rfl
  have hc : ∃ c, createCart { cartRom := List.replicate 0x150 0, bootMode := m } = .ok c := by
    unfold createCart
    rw [if_neg (by rw [List.length_replicate]; decide)]
    simp only [hb]
    exact ⟨_, rfl⟩
  obtain ⟨c, hc⟩ := hc
  unfold create
  rw [hc]
  cases m <;> exact ⟨_, rfl⟩

/-- An image one byte too short, and creations that succeed in each boot mode. -/
theorem witness_creation :
    (∃ e, create { cartRom := List.replicate 0x14F 0, bootMode := .skipBoot } = .error e) ∧
      (∃ s, create { cartRom := List.replicate 0x150 0, bootMode := .skipBoot } = .ok s) ∧
      ∃ s, create { cartRom := List.replicate 0x150 0, bootMode := .bootRom } = .ok s :=
  ⟨(create_error _).2 ⟨_, test_M14_M15_errors.1⟩, create_blank .skipBoot, create_blank .bootRom⟩

theorem witness_InvReachable : ∃ s, Reachable s := by
  obtain ⟨s, h⟩ := create_blank .skipBoot
  exact ⟨_, .acted _ (.press .a) (.created _ s h)⟩

/-- A locked machine two dots into a line meets the invariant, and its step answers a next state. -/
theorem witness_InvStep :
    let s := { State.reset with
      cpu := { Cpu.reset with locked := true }, ppu := { Ppu.reset with dot := 2, frameReady := true } }
    MachineInv s ∧ ∃ t, step s = .next t := by
  refine ⟨⟨by decide, by decide, ?_, ⟨by decide, by decide, by decide, by decide, trivial⟩, ?_, ⟨by decide, by decide⟩⟩, _, rfl⟩
  · refine ⟨?_, ?_, ?_, ?_, ?_, ?_⟩ <;> decide
  · refine ⟨⟨by decide, by decide⟩, by decide, by decide, by decide, by decide, List.length_replicate, fun r hr => ?_,
      List.length_replicate⟩
    rw [List.eq_of_mem_replicate hr]; exact List.length_replicate

end Sys2Proof.Tests
end

section
/-! SUPPORT. What a step can do, said once for the proofs about every step: bus writes around one update of IF, the CPU and
the cycle count, then the device phase. What it never changes, and that it keeps the invariant. -/

namespace Sys2Proof.Machine

open Sys2Proof.Safety

/-! ### The CPU step and the system step, inverted (40_step.md R251-R260) -/

/-- `t` is `s` after bus writes, with IF replaced before them and the CPU and the cycle count after them; F's low nibble
stays 0. -/
def StepEffect (s t : State) : Prop := ∃ (v : Byte) (w : List (Word × Byte)) (k : Cpu) (n : Nat),
  t = { storeAll { s with ifReg := v } w with cpu := k, cycles := n } ∧ (s.cpu.f &&& 0x0F = 0 → k.f &&& 0x0F = 0)

/-- Stores and a CPU update commute. -/
theorem storeAll_setCpu (s : State) (k : Cpu) (w : List (Word × Byte)) :
    storeAll (s.setCpu k) w = (storeAll s w).setCpu k := by
  induction w generalizing s with
  | nil => rfl
  | cons x w ih =>
    calc storeAll (s.setCpu k) (x :: w)
      _ = storeAll ((memWrite s x.1 x.2).setCpu k) w := congrArg (storeAll · w) (memWrite_setCpu ..)
      _ = (storeAll s (x :: w)).setCpu k := ih _

/-- A CPU update before the effect is part of it. -/
theorem StepEffect_of_setCpu {s t : State} {k : Cpu} (e : StepEffect (s.setCpu k) t)
    (hk : s.cpu.f &&& 0x0F = 0 → k.f &&& 0x0F = 0) : StepEffect s t := by
  obtain ⟨v, w, q, n, rfl, hq⟩ := e
  refine ⟨v, w, q, n, ?_, hq ∘ hk⟩
  show { storeAll (State.setCpu { s with ifReg := v } k) w with cpu := q, cycles := n } = _
  rw [storeAll_setCpu]
  rfl

theorem StepEffect_wake {s t : State} (e : StepEffect (wake s) t) : StepEffect s t := by
  rw [wake_eq] at e
  exact StepEffect_of_setCpu e id

theorem finish_effect (n : Nat) (s : State) : StepEffect s { s with cycles := n } := ⟨s.ifReg, [], s.cpu, n, rfl, id⟩

theorem dispatch_effect (s : State) (k : Nat) : StepEffect s (dispatch s k) := by
  rw [dispatch_eq]
  exact ⟨_, [(_, _), (_, _)], _, 5, rfl, id⟩

/-- The delayed EI after the effect is part of it (R256). -/
theorem StepEffect_applyEi {s t : State} (b : Bool) (e : StepEffect s t) : StepEffect s (applyEi b t) := by
  obtain ⟨v, w, k, n, rfl, hk⟩ := e
  rw [applyEi_eq]
  exact ⟨v, w, _, n, rfl, hk⟩

theorem Effect_stepEffect {s t : State} (n : Nat) (e : Effect s t) : StepEffect s { t with cycles := n } := by
  obtain ⟨w, k, -, hk, rfl⟩ := e
  exact ⟨s.ifReg, w, k, n, rfl, hk⟩

/-- An instruction that completes: its stores, then one update of the CPU and the cycle count (R255-R258). -/
theorem runInstr_effect (s t : State) (h : runInstr s = .next t) : StepEffect s t := by
  unfold runInstr at h
  rw [fetchInstr_eq] at h
  generalize decodeBytes (memRead s s.cpu.pc) (memRead s (s.cpu.pc + 1)) (memRead s (s.cpu.pc + 2)) = i at h
  rcases exec_cases i (s.setPc (s.cpu.pc + BitVec.ofNat 16 (instrLength (memRead s s.cpu.pc)))) with
    ⟨u, n, hu, -, -, e⟩ | ⟨-, -, e⟩ <;> rw [e] at h <;> cases h
  exact StepEffect_of_setCpu (StepEffect_applyEi _ (Effect_stepEffect n hu)) id

/-- What a CPU step that answers a next state can do (R259). -/
theorem cpuStep_effect (s t : State) (h : cpuStep s = .next t) : StepEffect s t := by
  unfold cpuStep at h
  split_ifs at h
  · cases h
    exact finish_effect 1 s
  · cases h
    exact StepEffect_wake (dispatch_effect (wake s) _)
  · cases h
    exact StepEffect_wake (finish_effect 1 (wake s))
  · exact StepEffect_wake (runInstr_effect (wake s) t h)

/-- A locked CPU does nothing for one cycle (R254). -/
theorem cpuStep_locked (s : State) (h : s.cpu.locked = true) : cpuStep s = .next { s with cycles := 1 } := if_pos h

/-- A system step is a CPU step, then the device phase of its cycles (R260). -/
theorem step_next (s t : State) : step s = .next t ↔ ∃ u, cpuStep s = .next u ∧ t = advanceDevices u.cycles u := by
  unfold step systemStep
  cases cpuStep s <;> simp [eq_comm]

/-! ### Every step keeps the invariant -/

theorem StepEffect_inv (s t : State) (h : MachineInv s) (e : StepEffect s t) : MachineInv t := by
  obtain ⟨v, w, k, n, rfl, hf⟩ := e
  exact MachineInv_withCpuCycles _ k n (storeAll_inv w _ (MachineInv_withIf s v h)) (hf h.flags)

theorem step_inv (s t : State) (h : MachineInv s) (e : step s = .next t) : MachineInv t := by
  obtain ⟨u, hu, rfl⟩ := (step_next s t).1 e
  exact advanceDevices_keeps MachineInv ppuDot_inv timerCycle_inv _ u (StepEffect_inv s u h (cpuStep_effect s u hu))

/-- Settles O59: the CPU step by what it can do (`cpuStep_effect`), the device phase tick by tick. -/
theorem invStep : Obligations.InvStep := step_inv

/-! ### What no step changes -/

/-- What no step changes of the machine outside the CPU, from `s` to `t` (10_state.md R40, R41, R54; 20_memory.md R104,
R118, R132, R133). -/
structure KeepsFixed (s t : State) : Prop where
  bootRom : t.bootRom = s.bootRom
  rom : t.cart.rom = s.cart.rom
  romLen : t.cart.romLen = s.cart.romLen
  romSize : t.cart.romSize = s.cart.romSize
  ramLen : t.cart.ramLen = s.cart.ramLen
  stopMode : t.stopMode = s.stopMode
  bootMapped : t.bootMapped = true → s.bootMapped = true
  action : t.joypad.action = s.joypad.action
  direction : t.joypad.direction = s.joypad.direction

theorem KeepsFixed.refl (s : State) : KeepsFixed s s := ⟨rfl, rfl, rfl, rfl, rfl, rfl, id, rfl, rfl⟩

theorem KeepsFixed.trans {s t u : State} (h : KeepsFixed s t) (g : KeepsFixed t u) : KeepsFixed s u where
  bootRom := g.bootRom.trans h.bootRom
  rom := g.rom.trans h.rom
  romLen := g.romLen.trans h.romLen
  romSize := g.romSize.trans h.romSize
  ramLen := g.ramLen.trans h.ramLen
  stopMode := g.stopMode.trans h.stopMode
  bootMapped := h.bootMapped ∘ g.bootMapped
  action := g.action.trans h.action
  direction := g.direction.trans h.direction

/-- `KeepsFixed` says nothing of the CPU, IF, the PPU, the timer and the cycle count. -/
theorem KeepsFixed.withDevices {s t : State} (h : KeepsFixed s t) (k : Cpu) (v : Byte) (p : Ppu) (m : Timer) (n : Nat) :
    KeepsFixed s { t with cpu := k, ifReg := v, ppu := p, timer := m, cycles := n } :=
  ⟨h.bootRom, h.rom, h.romLen, h.romSize, h.ramLen, h.stopMode, h.bootMapped, h.action, h.direction⟩

/-- A write to the I/O block moves no joypad latch: P1 stores its select bits alone (20_memory.md R114). -/
theorem ioWrite_latches (s : State) (i : Nat) (v : Byte) :
    (ioWrite s i v).joypad.action = s.joypad.action ∧ (ioWrite s i v).joypad.direction = s.joypad.direction := by
  unfold ioWrite
  split <;> simp only [dmaCopy_joypad, writeP1, and_self]

theorem memWrite_latches (s : State) (a : Word) (v : Byte) :
    (memWrite s a v).joypad.action = s.joypad.action ∧ (memWrite s a v).joypad.direction = s.joypad.direction := by
  simp only [memWrite]
  split_ifs <;> simp only [ioWrite_latches, and_self]

/-- A write reaches the cartridge through `cartWrite` or not at all. -/
theorem memWrite_cart (s : State) (a : Word) (v : Byte) :
    (memWrite s a v).cart = s.cart ∨ (memWrite s a v).cart = cartWrite s.cart a.toNat v := by
  simp only [memWrite]
  split_ifs <;> simp

theorem memWrite_keepsFixed (s : State) (a : Word) (v : Byte) : KeepsFixed s (memWrite s a v) := by
  obtain ⟨hrom, hlen, hsize, hram⟩ : (memWrite s a v).cart.rom = s.cart.rom ∧
      (memWrite s a v).cart.romLen = s.cart.romLen ∧ (memWrite s a v).cart.romSize = s.cart.romSize ∧
      (memWrite s a v).cart.ramLen = s.cart.ramLen := by
    rcases memWrite_cart s a v with e | e <;> rw [e]
    · exact ⟨rfl, rfl, rfl, rfl⟩
    · exact cartWrite_rom _ _ _
  obtain ⟨hact, hdir⟩ := memWrite_latches s a v
  refine ⟨memWrite_bootRom s a v, hrom, hlen, hsize, hram, memWrite_stopMode s a v, fun hb => ?_, hact, hdir⟩
  rw [memWrite_bootMapped] at hb
  exact Bool.and_elim_left hb

theorem storeAll_keepsFixed (s : State) (w : List (Word × Byte)) : KeepsFixed s (storeAll s w) := by
  induction w generalizing s with
  | nil => exact .refl s
  | cons x w ih => exact (memWrite_keepsFixed s x.1 x.2).trans (ih _)

/-- The device phase changes nothing that `KeepsFixed` names, and not the CPU. -/
theorem advanceDevices_keepsFixed (n : Nat) (s : State) :
    KeepsFixed s (advanceDevices n s) ∧ (advanceDevices n s).cpu = s.cpu := by
  refine advanceDevices_keeps (fun t => KeepsFixed s t ∧ t.cpu = s.cpu) ?_ ?_ n s ⟨.refl s, rfl⟩
  · rintro t ⟨h, hcpu⟩
    obtain ⟨p, v, e⟩ := ppuDot_eq t
    rw [e]
    exact ⟨h.withDevices t.cpu v p t.timer t.cycles, hcpu⟩
  · rintro t ⟨h, hcpu⟩
    obtain ⟨m, v, e⟩ := timerCycle_eq t
    rw [e]
    exact ⟨h.withDevices t.cpu v t.ppu m t.cycles, hcpu⟩

theorem StepEffect_keepsFixed (s t : State) (e : StepEffect s t) : KeepsFixed s t := by
  obtain ⟨v, w, k, n, rfl, -⟩ := e
  have hif : KeepsFixed s { s with ifReg := v } := (KeepsFixed.refl s).withDevices s.cpu v s.ppu s.timer s.cycles
  have hstores := hif.trans (storeAll_keepsFixed _ w)
  exact hstores.withDevices k _ _ _ n

/-- Settles O38: the stores of the CPU step (`cpuStep_effect`), then the device phase. -/
theorem stepKeeps : Obligations.StepKeeps := by
  unfold Obligations.StepKeeps
  intro s t hstep
  obtain ⟨u, hu, rfl⟩ := (step_next s t).1 hstep
  obtain ⟨hd, hcpu⟩ := advanceDevices_keepsFixed u.cycles u
  have h := (StepEffect_keepsFixed s u (cpuStep_effect s u hu)).trans hd
  refine ⟨h.bootRom, h.rom, h.romLen, h.romSize, h.ramLen, h.stopMode, h.bootMapped, fun hl => ?_, h.action, h.direction⟩
  rw [cpuStep_locked s hl] at hu
  cases hu
  exact hcpu

end Sys2Proof.Machine
end

section
/-! SUPPORT. Creation: the values it gives and that what it makes meets the invariant; then every state of a run does. -/

namespace Sys2Proof.Machine

open Sys2Proof.Safety

/-! ### A created machine meets the invariant (10_state.md R59-R61, 70_reset_and_hazards.md R701) -/

/-- The variants of R131 with their registers at creation (R160). -/
theorem mbcOfType_cases (code : Nat) : mbcOfType code = .none ∨ mbcOfType code = .a mbcAInit ∨
    mbcOfType code = .b mbcBInit ∨ (∃ b, mbcOfType code = .c (mbcCInit b)) ∨ mbcOfType code = .unknown := by
  unfold mbcOfType
  split <;> simp

/-- A created controller's bank is 1 (R160), and Controller B's RAM has 512 bytes (R144). -/
theorem mbcInv_created (c : Cart) (code ramCode : Nat) (hm : c.mbc = mbcOfType code)
    (hr : c.ramLen = ramSizeOf (mbcOfType code) ramCode) : MbcInv c := by
  unfold MbcInv
  rw [hm]
  rcases mbcOfType_cases code with e | e | e | ⟨b, e⟩ | e <;> rw [e] at hr ⊢
  · trivial
  · exact show (1 : BitVec 5) ≠ 0 by decide
  · exact ⟨show (1 : BitVec 4) ≠ 0 by decide, hr⟩
  · exact show (1 : BitVec 7) ≠ 0 by decide
  · trivial

theorem createCart_inv (p : Params) (c : Cart) (h : createCart p = .ok c) : CartInv c := by
  obtain ⟨-, size, -, rfl⟩ := createCart_ok p c h
  obtain ⟨hrom, hromRange⟩ := loadBytes_wf p.cartRom.length p.cartRom
  obtain ⟨hram, hramRange⟩ := loadBytes_wf
    (ramSizeOf (mbcOfType (byteAt p.cartRom 0x147).toNat) (byteAt p.cartRom 0x149).toNat) p.cartRamInit
  exact ⟨hrom, hromRange, hram, hramRange, mbcInv_created _ _ _ rfl rfl⟩

/-- Dropping keys keeps a memory canonical and inside its array. -/
theorem Memory.filter_wf (m : Memory) (n : Nat) (q : Host.Cell → Bool) (h : m.wf ∧ m.within n) :
    Memory.wf (m.filter q) ∧ Memory.within (m.filter q) n := by
  obtain ⟨⟨hp, hb⟩, hw⟩ := h
  exact ⟨⟨hp.filter q, fun c hc => hb c (List.mem_of_mem_filter hc)⟩, fun c hc => hw c (List.mem_of_mem_filter hc)⟩

theorem ppuBoot_inv (io : List Byte) : PpuInv (ppuBoot io) where
  position := ⟨Nat.zero_lt_succ 79, Nat.zero_lt_succ 143⟩
  statMode := show (0x06 : Byte) &&& 0x83 = 0x02 by decide
  spriteCount := Nat.zero_le 10
  spriteRange := by simp [ppuBoot, Ppu.reset]
  spriteOrder := .nil
  rows := List.length_replicate
  rowLength r hr := by rw [List.eq_of_mem_replicate hr]; exact List.length_replicate
  indexLength := List.length_replicate

/-- The two boot modes differ in registers that `PpuInv` says nothing of. -/
theorem ppuReset_inv : PpuInv Ppu.reset :=
  have h := ppuBoot_inv []
  ⟨h.position, h.statMode, h.spriteCount, h.spriteRange, h.spriteOrder, h.rows, h.rowLength, h.indexLength⟩

theorem createBootRom_inv (p : Params) (c : Cart) (hc : CartInv c) : MachineInv (createBootRom p c) where
  flags := by
    show p.powerOnRegs.f &&& 0xF0 &&& 0x0F = 0
    rw [BitVec.and_assoc]; simp
  p1 := writeP1_masked Joypad.reset (byteAt p.powerOnMem.io 0x00)
  mem := ⟨loadBytes_wf .., loadBytes_wf .., loadBytes_wf .., loadBytes_wf ..,
    Memory.filter_wf _ _ _ (loadBytes_wf ..), loadBytes_wf ..⟩
  cart := hc
  ppu := ppuBoot_inv p.powerOnMem.io
  timer := ⟨Nat.zero_lt_succ 63, Nat.zero_lt_succ 255⟩

theorem createSkipBoot_inv (p : Params) (c : Cart) (hc : CartInv c) : MachineInv (createSkipBoot p c) where
  flags := show (0xB0 : Byte) &&& 0x0F = 0 by decide
  p1 := show (0x00 : Byte) &&& 0xCF = 0 by decide
  mem := ⟨loadBytes_wf .., loadBytes_wf .., loadBytes_wf .., loadBytes_wf .., loadBytes_wf 128 [], loadBytes_wf ..⟩
  cart := hc
  ppu := ppuReset_inv
  timer := ⟨Nat.zero_lt_succ 63, Nat.zero_lt_succ 255⟩

theorem create_inv (p : Params) (s : State) (h : create p = .ok s) : MachineInv s := by
  obtain ⟨hc, ⟨-, e⟩ | ⟨-, e⟩⟩ := create_ok p s h <;> rw [e]
  · exact createBootRom_inv p _ (createCart_inv p _ hc)
  · exact createSkipBoot_inv p _ (createCart_inv p _ hc)

/-! ### The host's actions, and every state of a run (40_step.md R262) -/

theorem MachineInv_withJoypad (s : State) (j : Joypad) (h : MachineInv s) (hj : j.p1 = s.joypad.p1) :
    MachineInv { s with joypad := j } :=
  ⟨h.flags, by show j.p1 &&& 0xCF = 0; rw [hj]; exact h.p1,
    ⟨h.mem.bootRom, h.mem.vram, h.mem.wram, h.mem.oam, h.mem.io, h.mem.hram⟩, h.cart, h.ppu, h.timer⟩

@[simp] theorem latchPress_p1 (j : Joypad) (btn : Button) : (latchPress j btn).p1 = j.p1 := by
  unfold latchPress; split <;> rfl

@[simp] theorem latchRelease_p1 (j : Joypad) (btn : Button) : (latchRelease j btn).p1 = j.p1 := by
  unfold latchRelease; split <;> rfl

theorem setRtc_inv (r : Rtc) (s : State) (h : MachineInv s) : MachineInv (setRtc r s) := by
  unfold setRtc
  split
  · rename_i m hm
    have hbank := h.cart.mbc
    rw [MbcInv, hm] at hbank
    exact MachineInv_withCart s _ h ⟨h.cart.rom, h.cart.romRange, h.cart.ram, h.cart.ramRange, hbank⟩
  · exact h

theorem hostAct_inv (x : HostAction) (s : State) (h : MachineInv s) : MachineInv (hostAct x s) := by
  cases x with
  | press btn => exact MachineInv_withIf _ _ (MachineInv_withJoypad s _ h (latchPress_p1 _ btn))
  | release btn => exact MachineInv_withJoypad s _ h (latchRelease_p1 _ btn)
  | releaseAll => exact MachineInv_withJoypad s _ h rfl
  | clearFrameReady =>
    exact MachineInv_withPpu s _ h ⟨h.ppu.position, h.ppu.statMode, h.ppu.spriteCount, h.ppu.spriteRange,
      h.ppu.spriteOrder, h.ppu.rows, h.ppu.rowLength, h.ppu.indexLength⟩
  | setRtc r => exact setRtc_inv r s h

/-- Settles O60, by induction on the run. -/
theorem invReachable : Obligations.InvReachable := by
  unfold Obligations.InvReachable
  intro s hs
  induction hs with
  | created p s h => exact create_inv p s h
  | stepped s t _ h ih => exact step_inv s t ih h
  | acted s x _ ih => exact hostAct_inv x s ih

/-! ### `State.reset` (70_reset_and_hazards.md R700) -/

theorem byteAt_blankImage (i : Nat) : byteAt blankImage i = 0 := by
  rw [byteAt, blankImage, List.getD_eq_getElem?_getD, List.getElem?_replicate]
  split <;> rfl

/-- The header of the zero image: no banking, 32 KiB of ROM and no RAM (20_memory.md R131-R133). -/
theorem createCart_resetParams : createCart resetParams = .ok Cart.reset := by
  have hlen : resetParams.cartRom.length = 0x8000 := List.length_replicate
  have hrom : loadBytes 0x8000 blankImage = [] := by
    rw [loadBytes, blankImage, List.take_replicate]
    exact ofBytes_replicate_blank 0 _
  unfold createCart
  rw [if_neg (by rw [hlen]; decide), hlen, show resetParams.cartRom = blankImage from rfl]
  simp only [byteAt_blankImage, hrom]
  rfl

theorem create_resetParams : create resetParams = .ok State.reset := by
  unfold create
  rw [createCart_resetParams]
  rfl

/-- Settles O58: the creation is evaluated, and every creation meets the invariant (`create_inv`). -/
theorem invReset : Obligations.InvReset := ⟨create_resetParams, create_inv resetParams State.reset create_resetParams⟩

/-! ### The values after creation (10_state.md R59-R61) -/

/-- A key that the filter lets through reads as before. -/
theorem Memory.read_filter (m : Memory) (q : Nat → Bool) (k : Nat) (hk : q k = true) :
    Memory.read (m.filter fun x => q x.1) k = m.read k := by
  induction m with
  | nil => rfl
  | cons c t ih =>
    obtain ⟨i, w⟩ := c
    by_cases hi : i = k
    · subst hi
      simp [Memory.read, hk]
    · cases hq : q i <;> simp [Memory.read, hq, hi, ih]

/-- With no button held, P1 reads its select bits among ones (20_memory.md R114). -/
theorem readP1_released (v : Byte) : readP1 { Joypad.reset with p1 := v &&& 0x30 } = 0xCF ||| (v &&& 0x30) := by
  have hn : joypadNibble { Joypad.reset with p1 := v &&& 0x30 } = 0xF := by
    simp [joypadNibble, Joypad.reset]
  unfold readP1
  rw [hn]
  show 0xC0 ||| (v &&& 0x30 &&& 0x30) ||| 0x0F = 0xCF ||| (v &&& 0x30)
  rw [BitVec.and_assoc, BitVec.or_assoc, BitVec.or_comm (v &&& _), ← BitVec.or_assoc]
  rfl

/-- What the I/O block reads after creation in `boot_rom` mode (R60, R61; log 20). -/
theorem ioRead_createBootRom (p : Params) (c : Cart) (i : Nat) (hi : i < 128) : ioRead (createBootRom p c) i =
    if i = 0x00 then 0xCF ||| (p.powerOnMem.io.getD 0 0 &&& 0x30) else if i = 0x04 then 0x00
    else if i = 0x41 then 0x86 else if i = 0x44 then 0x00 else p.powerOnMem.io.getD i 0 := by
  unfold ioRead
  split
  case h_1 => exact readP1_released _
  case h_10 => exact show (0x80 : Byte) ||| 0x06 = 0x86 by decide
  case h_22 =>
    have hn : i ∉ namedIo := fun hn => by fin_cases hn <;> contradiction
    rw [if_neg (by omega), if_neg (by omega), if_neg (by omega), if_neg (by omega)]
    exact (Memory.read_filter _ (fun k => decide (k ∉ namedIo)) i (by simpa using hn)).trans (read_loadBytes 128 i _ hi)
  all_goals rfl

/-- In `skip_boot` mode the I/O block reads as that of `State.reset`, whatever the parameters. -/
theorem ioRead_createSkipBoot (p : Params) (c : Cart) (i : Nat) : ioRead (createSkipBoot p c) i = ioRead State.reset i := by
  unfold ioRead; rfl

/-- What the I/O block of `State.reset` reads (R60, R61). -/
theorem ioRead_reset (i : Nat) : ioRead State.reset i =
    if i = 0x00 then 0xCF else if i = 0x02 then 0x7E else if i = 0x07 then 0xF8 else if i = 0x0F then 0xE1
    else if i = 0x40 then 0x91 else if i = 0x41 then 0x86 else if i = 0x47 then 0xFC else 0x00 := by
  unfold ioRead
  split
  case h_22 =>
    rw [if_neg (by omega), if_neg (by omega), if_neg (by omega), if_neg (by omega), if_neg (by omega), if_neg (by omega),
      if_neg (by omega)]
    rfl
  all_goals rfl

/-- A read of the I/O block by its offset (20_memory.md R101). -/
theorem memRead_ioOffset (s : State) (i : Nat) (hi : i < 128) :
    memRead s (BitVec.ofNat 16 (0xFF00 + i)) = ioRead s i := by
  have ha : (BitVec.ofNat 16 (0xFF00 + i)).toNat = 0xFF00 + i := by rw [BitVec.toNat_ofNat]; omega
  rw [memRead_io s _ (by omega) (by omega), ha, Nat.add_sub_cancel_left]

/-- Settles O56, one boot mode after the other. -/
theorem resetValues : Obligations.ResetValues := by
  unfold Obligations.ResetValues
  intro p s h
  obtain ⟨-, ⟨hm, e⟩ | ⟨hm, e⟩⟩ := create_ok p s h
  · have hio (i : Nat) (hi : i < 128) := (memRead_ioOffset s i hi).trans
      ((congrArg (ioRead · i) e).trans (ioRead_createBootRom p s.cart i hi))
    rw [hm]
    rw [e] at hio ⊢
    exact ⟨rfl, rfl, rfl, rfl, rfl, rfl, rfl, rfl, rfl, rfl, rfl, nofun,
      fun _ => ⟨rfl, rfl, rfl, rfl, rfl, rfl, rfl, rfl, rfl, rfl, rfl, rfl, hio⟩⟩
  · have hio (i : Nat) (hi : i < 128) := (memRead_ioOffset s i hi).trans
      ((congrArg (ioRead · i) e).trans ((ioRead_createSkipBoot p s.cart i).trans (ioRead_reset i)))
    rw [hm]
    rw [e] at hio ⊢
    exact ⟨rfl, rfl, rfl, rfl, rfl, rfl, rfl, rfl, rfl, rfl, rfl,
      fun _ => ⟨rfl, rfl, rfl, rfl, rfl, rfl, rfl, rfl, rfl, rfl, rfl, rfl, hio⟩, nofun⟩

end Sys2Proof.Machine
end

section
/-! SUPPORT. The memory frame of the instructions (20_memory.md R123, R127): every instruction is stores at the addresses
that `StoresTo` names and one update of the CPU, and a store changes no read outside `StoreReaches`. -/

namespace Sys2Proof.Machine

open Sys2Proof.Safety

/-! ### Stores at addresses of a set -/

/-- `t` is `s` after stores at addresses of `P` and a CPU update. -/
def StoresOnly (P : Word → Prop) (s t : State) : Prop := ∃ (w : List (Word × Byte)) (k : Cpu),
  (∀ x ∈ w, P x.1) ∧ t = (storeAll s w).setCpu k

/-- Where the outcome `o` is a next state, it is `s` after stores at addresses of `P`, a CPU update and a cycle count. -/
def StoresWithin (P : Word → Prop) (s : State) (o : Result) : Prop :=
  ∀ t, o = .next t → ∃ u n, StoresOnly P s u ∧ t = { u with cycles := n }

/-- Stores that do not reach `b` leave the byte there as it was. -/
theorem memRead_storeAll_other (w : List (Word × Byte)) (s : State) (b : Word)
    (h : ∀ x ∈ w, ¬ StoreReaches (mirrorsRam s.cart.mbc) x.1 b) : memRead (storeAll s w) b = memRead s b := by
  induction w generalizing s with
  | nil => rfl
  | cons x w ih =>
    obtain ⟨hx, hw⟩ := List.forall_mem_cons.1 h
    have hm := mirrorsRam_memWrite s x.1 x.2
    calc memRead (storeAll (memWrite s x.1 x.2) w) b
      _ = memRead (memWrite s x.1 x.2) b := ih _ (by rwa [hm])
      _ = memRead s b := memRead_memWrite_other s x.1 b x.2 hx

/-- The frame of an outcome: a byte that no store of it reaches reads as before. -/
theorem StoresWithin.memRead_eq {P : Word → Prop} {s : State} {o : Result} (h : StoresWithin P s o) (t : State)
    (ht : o = .next t) (b : Word) (hb : ∀ a, P a → ¬ StoreReaches (mirrorsRam s.cart.mbc) a b) :
    memRead t b = memRead s b := by
  obtain ⟨u, n, ⟨w, k, hw, rfl⟩, rfl⟩ := h t ht
  rw [memRead_withCycles, memRead_setCpu]
  exact memRead_storeAll_other w s b fun x hx => hb x.1 (hw x hx)

theorem StoresWithin.mono {P Q : Word → Prop} {s : State} {o : Result} (h : StoresWithin P s o)
    (hpq : ∀ a, P a → Q a) : StoresWithin Q s o := fun t ht => by
  obtain ⟨u, n, ⟨w, k, hw, hu⟩, e⟩ := h t ht
  exact ⟨u, n, ⟨w, k, fun x hx => hpq _ (hw x hx), hu⟩, e⟩

/-! ### The operations -/

section
variable {P : Word → Prop} {s : State}

theorem storesOnly_cpu (s : State) (k : Cpu) : StoresOnly P s (s.setCpu k) := ⟨[], k, nofun, rfl⟩

theorem storesOnly_writeCpu {a : Word} {v : Byte} {k : Cpu} (h : P a) :
    StoresOnly P s ((memWrite s a v).setCpu k) := ⟨[(a, v)], k, by simpa using h, rfl⟩

theorem storesOnly_write {a : Word} {v : Byte} (h : P a) :
    StoresOnly P s (memWrite s a v) := storesOnly_writeCpu (k := (memWrite s a v).cpu) h

theorem storesOnly_storeAcc {m : R16Mem} (h : P (r16MemAddress s.cpu m)) :
    StoresOnly P s (storeAcc m s) := storesOnly_writeCpu h

theorem storesOnly_write2Cpu {a b : Word} {v w : Byte} {k : Cpu} (ha : P a) (hb : P b) :
    StoresOnly P s ((memWrite (memWrite s a v) b w).setCpu k) := ⟨[(a, v), (b, w)], k, by simp [ha, hb], rfl⟩

theorem storesOnly_storeSp {n : Word} (hl : P n) (hh : P (n + 1)) :
    StoresOnly P s (storeSp n s) := storesOnly_write2Cpu (k := (storeSp n s).cpu) hl hh

theorem storesOnly_push16 {v : Word} (h : ∀ a, PushAddress s a → P a) : StoresOnly P s (push16 s v) := by
  rw [push16_eq]
  exact storesOnly_write2Cpu (h _ .high) (h _ .low)

theorem storesOnly_call {n : Word} (h : ∀ a, PushAddress s a → P a) : StoresOnly P s (call n s) := by
  rw [call_eq]
  exact storesOnly_write2Cpu (h _ .high) (h _ .low)

theorem storesWithin_finish {t : State} {n : Nat} (h : StoresOnly P s t) :
    StoresWithin P s (finish n t) := fun u hu => ⟨t, n, h, (finish_eq_next n t u).1 hu⟩

/-- A conditional instruction stores only where its condition holds (R430). -/
theorem storesWithin_branch {cc : Cond} {b n : Nat} {f : State → State}
    (h : holds s.cpu cc = true → StoresOnly P s (f s)) : StoresWithin P s (branch cc b n f s) := by
  rw [branch_eq]
  split
  · exact storesWithin_finish (h ‹_›)
  · exact storesWithin_finish (storesOnly_cpu s s.cpu)

end

/-! ### The instructions -/

/-- The prefixed table stores to HL, in the rotates, RES and SET of `(HL)` (R400-R411). -/
theorem runCb_storesWithin (x : Byte) (s : State) : StoresWithin (StoresTo s (decodeCb x)) s (runCb x s) := by
  unfold decodeCb runCb
  dsimp only
  generalize r8OfCode (x.extractLsb' 0 3).toNat = r
  generalize (x.extractLsb' 3 3).toNat = y
  generalize (x.extractLsb' 6 2).toNat = group
  match group, r with
  | 0, .atHl => exact storesWithin_finish (storesOnly_writeCpu (StoresTo.rotate (rotOfCode y)))
  | 2, .atHl => exact storesWithin_finish (storesOnly_write (StoresTo.res (bitOfCode y)))
  | _ + 3, .atHl => exact storesWithin_finish (storesOnly_write (StoresTo.set (bitOfCode y)))
  | 0, .reg _ | 1, _ | 2, .reg _ | _ + 3, .reg _ => exact storesWithin_finish (storesOnly_cpu s _)

/-- Every instruction stores to the addresses of `StoresTo` alone: the forms that store one by one, and the rest, which
update the CPU alone. -/
theorem exec_storesWithin (i : Instr) (s : State) : StoresWithin (StoresTo s i) s (exec i s) := by
  cases i
  case ldAtBcA => exact storesWithin_finish (storesOnly_storeAcc (.ldPair .bc))
  case ldAtDeA => exact storesWithin_finish (storesOnly_storeAcc (.ldPair .de))
  case ldAtHlIncA => exact storesWithin_finish (storesOnly_storeAcc (.ldPair .hlInc))
  case ldAtHlDecA => exact storesWithin_finish (storesOnly_storeAcc (.ldPair .hlDec))
  case ldAtHlB => exact storesWithin_finish (storesOnly_write (.ldRegister .b))
  case ldAtHlC => exact storesWithin_finish (storesOnly_write (.ldRegister .c))
  case ldAtHlD => exact storesWithin_finish (storesOnly_write (.ldRegister .d))
  case ldAtHlE => exact storesWithin_finish (storesOnly_write (.ldRegister .e))
  case ldAtHlH => exact storesWithin_finish (storesOnly_write (.ldRegister .h))
  case ldAtHlL => exact storesWithin_finish (storesOnly_write (.ldRegister .l))
  case ldAtHlA => exact storesWithin_finish (storesOnly_write (.ldRegister .a))
  case ldAtHlN8 n => exact storesWithin_finish (storesOnly_write (.ldImmediate n))
  case ldAtN16A n => exact storesWithin_finish (storesOnly_write (.ldAbsolute n))
  case ldhAtN8A n => exact storesWithin_finish (storesOnly_write (.ldHighPage n))
  case ldhAtCA => exact storesWithin_finish (storesOnly_write .ldHighC)
  case ldAtN16Sp n => exact storesWithin_finish (storesOnly_storeSp (.ldSpLow n) (.ldSpHigh n))
  case pushBc => exact storesWithin_finish (storesOnly_push16 (.push .bc))
  case pushDe => exact storesWithin_finish (storesOnly_push16 (.push .de))
  case pushHl => exact storesWithin_finish (storesOnly_push16 (.push .hl))
  case pushAf => exact storesWithin_finish (storesOnly_push16 (.push .af))
  case callN16 n => exact storesWithin_finish (storesOnly_call (.call n))
  case callNzN16 n => exact storesWithin_branch fun ht => storesOnly_call fun a => .callTaken .nz n a ht
  case callZN16 n => exact storesWithin_branch fun ht => storesOnly_call fun a => .callTaken .z n a ht
  case callNcN16 n => exact storesWithin_branch fun ht => storesOnly_call fun a => .callTaken .nc n a ht
  case callCN16 n => exact storesWithin_branch fun ht => storesOnly_call fun a => .callTaken .c n a ht
  case rst00 => exact storesWithin_finish (storesOnly_call (.rst .t00))
  case rst08 => exact storesWithin_finish (storesOnly_call (.rst .t08))
  case rst10 => exact storesWithin_finish (storesOnly_call (.rst .t10))
  case rst18 => exact storesWithin_finish (storesOnly_call (.rst .t18))
  case rst20 => exact storesWithin_finish (storesOnly_call (.rst .t20))
  case rst28 => exact storesWithin_finish (storesOnly_call (.rst .t28))
  case rst30 => exact storesWithin_finish (storesOnly_call (.rst .t30))
  case rst38 => exact storesWithin_finish (storesOnly_call (.rst .t38))
  case incAtHl => exact storesWithin_finish (storesOnly_writeCpu .inc)
  case decAtHl => exact storesWithin_finish (storesOnly_writeCpu .dec)
  case rlcAtHl => exact storesWithin_finish (storesOnly_writeCpu (.rotate .rlc))
  case rrcAtHl => exact storesWithin_finish (storesOnly_writeCpu (.rotate .rrc))
  case rlAtHl => exact storesWithin_finish (storesOnly_writeCpu (.rotate .rl))
  case rrAtHl => exact storesWithin_finish (storesOnly_writeCpu (.rotate .rr))
  case slaAtHl => exact storesWithin_finish (storesOnly_writeCpu (.rotate .sla))
  case sraAtHl => exact storesWithin_finish (storesOnly_writeCpu (.rotate .sra))
  case swapAtHl => exact storesWithin_finish (storesOnly_writeCpu (.rotate .swap))
  case srlAtHl => exact storesWithin_finish (storesOnly_writeCpu (.rotate .srl))
  case res0AtHl => exact storesWithin_finish (storesOnly_write (.res .b0))
  case res1AtHl => exact storesWithin_finish (storesOnly_write (.res .b1))
  case res2AtHl => exact storesWithin_finish (storesOnly_write (.res .b2))
  case res3AtHl => exact storesWithin_finish (storesOnly_write (.res .b3))
  case res4AtHl => exact storesWithin_finish (storesOnly_write (.res .b4))
  case res5AtHl => exact storesWithin_finish (storesOnly_write (.res .b5))
  case res6AtHl => exact storesWithin_finish (storesOnly_write (.res .b6))
  case res7AtHl => exact storesWithin_finish (storesOnly_write (.res .b7))
  case set0AtHl => exact storesWithin_finish (storesOnly_write (.set .b0))
  case set1AtHl => exact storesWithin_finish (storesOnly_write (.set .b1))
  case set2AtHl => exact storesWithin_finish (storesOnly_write (.set .b2))
  case set3AtHl => exact storesWithin_finish (storesOnly_write (.set .b3))
  case set4AtHl => exact storesWithin_finish (storesOnly_write (.set .b4))
  case set5AtHl => exact storesWithin_finish (storesOnly_write (.set .b5))
  case set6AtHl => exact storesWithin_finish (storesOnly_write (.set .b6))
  case set7AtHl => exact storesWithin_finish (storesOnly_write (.set .b7))
  case prefixCb x => exact (runCb_storesWithin x s).mono (.viaPrefix x)
  case jrNzE8 | jrZE8 | jrNcE8 | jrCE8 | retNz | retZ | retNc | retC =>
    refine storesWithin_branch fun _ => ?_
    exact storesOnly_cpu s _
  case jpNzN16 n | jpZN16 n | jpNcN16 n | jpCN16 n =>
    exact storesWithin_branch (f := (State.setPc · n)) fun _ => storesOnly_cpu s _
  case stop x =>
    intro t ht
    rw [exec_stop] at ht
    split at ht
    · exact storesWithin_finish (storesOnly_cpu s s.cpu) t ht
    · cases ht
  all_goals exact storesWithin_finish (storesOnly_cpu s _)

/-- Settles O39: the stores of the instruction (`exec_storesWithin`), each with its frame (`memRead_memWrite_other`). -/
theorem memoryFrame : Obligations.MemoryFrame := by
  unfold Obligations.MemoryFrame
  exact fun i s t b ht hb => (exec_storesWithin i s).memRead_eq t ht b hb

end Sys2Proof.Machine
end

section
/-! SUPPORT. The bus: the regions, the round trip of a byte, the registers with semantics of their own and the DMA copy
(20_memory.md R104-R108, R113-R118). -/

namespace Sys2Proof.Machine

open Sys2Proof.Safety

/-! ### The regions (R104-R106, R118) -/

/-- An echo address and the work RAM address below it are one byte (R105). -/
theorem memRead_echo_eq (s : State) (a : Word) (h : 0xE000 ≤ a.toNat) (h' : a.toNat < 0xFE00) :
    memRead s a = memRead s (a - 0x2000) := by
  have hw := toNat_sub_echo a h
  rw [memRead_echo s a h h', memRead_wram s (a - 0x2000) (by omega) (by omega), hw,
    show a.toNat - 0x2000 - 0xC000 = a.toNat - 0xE000 by omega]

theorem memWrite_echo_eq (s : State) (a : Word) (v : Byte) (h : 0xE000 ≤ a.toNat) (h' : a.toNat < 0xFE00) :
    memWrite s a v = memWrite s (a - 0x2000) v := by
  have hw := toNat_sub_echo a h
  rw [memWrite_echo s a v h h', memWrite_wram s (a - 0x2000) v (by omega) (by omega), hw,
    show a.toNat - 0x2000 - 0xC000 = a.toNat - 0xE000 by omega]

/-- A write to the I/O block by its offset (R102). -/
theorem memWrite_ioOffset (s : State) (i : Nat) (v : Byte) (hi : i < 128) :
    memWrite s (BitVec.ofNat 16 (0xFF00 + i)) v = ioWrite s i v := by
  have ha : (BitVec.ofNat 16 (0xFF00 + i)).toNat = 0xFF00 + i := by rw [BitVec.toNat_ofNat]; omega
  rw [memWrite_io s _ v (by omega) (by omega), ha, Nat.add_sub_cancel_left]

/-- The boot-ROM-disable register (R118). -/
theorem memWrite_bootOff (s : State) (v : Byte) : memWrite s 0xFF50 v = { s with bootOff := v, bootMapped := false } :=
  memWrite_ioOffset s 0x50 v (by decide)

/-- Settles O40, region by region. -/
theorem busRegions : Obligations.BusRegions := by
  unfold Obligations.BusRegions
  intro s a v
  refine ⟨fun h h' => ⟨memRead_echo_eq s a h h', memWrite_echo_eq s a v h h'⟩,
    fun h h' => ⟨memRead_gap s a h h', memWrite_gap s a v h h'⟩,
    fun h => memWrite_rom s a v (by omega), memWrite_bootOff s v, fun h => ⟨?_, fun hb => ?_⟩⟩
  · rw [memWrite_bootOff, memRead_low _ a h]
    rfl
  · rw [memRead_low s a h, if_pos hb]

/-! ### The registers (R113-R116) -/

/-- An offset without a field of its own is a plain byte of the I/O block (R113). -/
theorem ioRead_plain (s : State) (i : Nat) (h : i ∉ namedIo) : ioRead s i = s.io.read i := by
  unfold ioRead
  split
  case h_22 => rfl
  all_goals exact absurd (by decide) h

/-- A byte written to an I/O register other than P1, STAT and LY is read back (R108, R113). -/
theorem ioRead_ioWrite_same (s : State) (i : Nat) (v : Byte) (hw : s.io.wf) (hp1 : i ≠ 0x00) (hstat : i ≠ 0x41)
    (hly : i ≠ 0x44) : ioRead (ioWrite s i v) i = v := by
  unfold ioWrite
  split
  case h_1 => exact absurd rfl hp1
  case h_10 => exact absurd rfl hstat
  case h_13 => exact absurd rfl hly
  case h_15 => exact dmaCopy_dma { s with dma := v } v
  case h_22 =>
    have hi : i ∉ namedIo := fun hn => by fin_cases hn <;> contradiction
    rw [ioRead_plain _ i hi]
    exact Memory.read_write_same _ _ _ hw
  all_goals rfl

/-- Settles O42: the three arms of the I/O block. -/
theorem specialRegisters : Obligations.SpecialRegisters := by
  unfold Obligations.SpecialRegisters
  intro s v
  exact ⟨⟨memWrite_ioOffset s 0x00 v (by decide), memRead_ioOffset s 0x00 (by decide)⟩,
    ⟨memWrite_ioOffset s 0x41 v (by decide), memRead_ioOffset s 0x41 (by decide)⟩,
    ⟨memWrite_ioOffset s 0x44 v (by decide), memRead_ioOffset s 0x44 (by decide)⟩⟩

/-- Settles O41, region by region. -/
theorem roundTrip : Obligations.RoundTrip := by
  unfold Obligations.RoundTrip
  intro s a v hm ha hp1 hstat hly
  have hne (k : Word) (n : Nat) (hk : k.toNat = n) (h : a ≠ k) : a.toNat ≠ n :=
    fun e => h (BitVec.eq_of_toNat_eq (e.trans hk.symm))
  rcases (by omega : (0x8000 ≤ a.toNat ∧ a.toNat < 0xA000) ∨ (0xC000 ≤ a.toNat ∧ a.toNat < 0xE000) ∨
    (0xE000 ≤ a.toNat ∧ a.toNat < 0xFE00) ∨ (0xFE00 ≤ a.toNat ∧ a.toNat < 0xFEA0) ∨
    (0xFF00 ≤ a.toNat ∧ a.toNat < 0xFF80) ∨ (0xFF80 ≤ a.toNat ∧ a.toNat < 0xFFFF) ∨ 0xFFFF ≤ a.toNat)
    with ⟨h, h'⟩ | ⟨h, h'⟩ | ⟨h, h'⟩ | ⟨h, h'⟩ | ⟨h, h'⟩ | ⟨h, h'⟩ | h
  · rw [memWrite_vram s a v h h', memRead_vram _ a h h']
    exact Memory.read_write_same _ _ _ hm.vram.1
  · rw [memWrite_wram s a v h h', memRead_wram _ a h h']
    exact Memory.read_write_same _ _ _ hm.wram.1
  · rw [memWrite_echo s a v h h', memRead_echo _ a h h']
    exact Memory.read_write_same _ _ _ hm.wram.1
  · rw [memWrite_oam s a v h h', memRead_oam _ a h h']
    exact Memory.read_write_same _ _ _ hm.oam.1
  · rw [memWrite_io s a v h h', memRead_io _ a h h']
    have h0 := hne 0xFF00 0xFF00 rfl hp1
    have h1 := hne 0xFF41 0xFF41 rfl hstat
    have h2 := hne 0xFF44 0xFF44 rfl hly
    exact ioRead_ioWrite_same s _ v hm.io.1 (by omega) (by omega) (by omega)
  · rw [memWrite_hram s a v h h', memRead_hram _ a h h']
    exact Memory.read_write_same _ _ _ hm.hram.1
  · obtain rfl : a = 0xFFFF := BitVec.eq_of_toNat_eq (Nat.le_antisymm (Nat.le_of_lt_succ a.isLt) h)
    rw [memWrite_ie, memRead_ie]

/-! ### The DMA copy (R117) -/

/-- A read sees of OAM the one byte it reads. -/
theorem memRead_withOam (s : State) (m : Memory) (a : Word)
    (h : ∀ k < 0xA0, a.toNat = 0xFE00 + k → m.read k = s.oam.read k) :
    memRead { s with oam := m } a = memRead s a :=
  memRead_ext _ _ _ (fun _ => ⟨rfl, rfl⟩) (fun _ _ _ => rfl) (fun _ _ _ => rfl) (fun _ _ _ => rfl) h
    (fun _ _ _ => by unfold ioRead; rfl) (fun _ _ _ => rfl) (fun _ => rfl)

/-- After the first `n` bytes of the copy OAM holds them, and the rest of it is as before: a source byte in OAM is read
before the copy reaches it. -/
theorem dmaCopy_first (s : State) (v : Byte) (hw : s.oam.wf) (n : Nat) (hn : n ≤ 160) :
    ∃ m, (List.range n).foldl (dmaByte v) s = { s with oam := m } ∧ m.wf ∧
      ∀ j, m.read j = if j < n then memRead s (BitVec.ofNat 16 (v.toNat * 0x100 + j)) else s.oam.read j := by
  induction n with
  | zero => exact ⟨s.oam, rfl, hw, fun j => rfl⟩
  | succ n ih =>
    obtain ⟨m, e, hm, hread⟩ := ih (by omega)
    have hv := v.isLt
    have ha : (BitVec.ofNat 16 (v.toNat * 0x100 + n)).toNat = v.toNat * 0x100 + n := by rw [BitVec.toNat_ofNat]; omega
    have hsrc : memRead { s with oam := m } (BitVec.ofNat 16 (v.toNat * 0x100 + n)) =
        memRead s (BitVec.ofNat 16 (v.toNat * 0x100 + n)) :=
      memRead_withOam s m _ fun k hk e => by rw [hread, if_neg (by omega)]
    refine ⟨m.write n (memRead s (BitVec.ofNat 16 (v.toNat * 0x100 + n))), ?_, Memory.write_wf _ _ _ hm, fun j => ?_⟩
    · rw [List.range_succ, List.foldl_append, e, List.foldl_cons, List.foldl_nil, dmaByte, hsrc]
    · by_cases hj : j = n
      · rw [hj, Memory.read_write_same _ _ _ hm, if_pos (Nat.lt_succ_self n)]
      · rw [Memory.read_write_other _ _ _ _ hj, hread]
        exact if_congr (by omega) rfl rfl

/-- Settles O43: the whole copy (`dmaCopy_first` at 160). -/
theorem dmaCopy_spec : Obligations.DmaCopy := by
  unfold Obligations.DmaCopy
  intro s v hm
  obtain ⟨m, e, -, hread⟩ := dmaCopy_first { s with dma := v } v hm.oam.1 160 (Nat.le_refl _)
  have hdma : memWrite s 0xFF46 v = { s with dma := v, oam := m } :=
    (memWrite_ioOffset s 0x46 v (by decide)).trans e
  rw [hdma]
  refine ⟨fun i hi => ?_, rfl⟩
  have ha : (BitVec.ofNat 16 (0xFE00 + i)).toNat = 0xFE00 + i := by rw [BitVec.toNat_ofNat]; omega
  rw [memRead_oam _ _ (by omega) (by omega), ha, Nat.add_sub_cancel_left, Nat.mul_comm]
  exact (hread i).trans (if_pos hi)

end Sys2Proof.Machine
end

section
/-! SUPPORT. The cartridge: bank numbers, controller registers, the RAM window and the header (20_memory.md R130-R160). -/

namespace Sys2Proof.Machine

open Sys2Proof.Safety

/-! ### The ROM windows (R134, R141, R142, R146, R151) -/

/-- The bank mask of a ROM of `2 << k` banks of 16 KiB (R134). -/
theorem romMask_eq (c : Cart) (k : Nat) (h : c.romSize = 0x8000 <<< k) : romMask c = 2 ^ (k + 1) - 1 := by
  rw [romMask, h, Nat.shiftLeft_eq, Nat.pow_succ]
  omega

/-- The mask reduces a bank number modulo the banks there are. -/
theorem and_romMask (c : Cart) (k b : Nat) (h : c.romSize = 0x8000 <<< k) : b &&& romMask c = b % (2 <<< k) := by
  rw [romMask_eq c k h, Nat.and_two_pow_sub_one_eq_mod, Nat.shiftLeft_eq, Nat.pow_succ, Nat.mul_comm]

/-- The secondary bits stand above the five primary ones (R142). -/
theorem bank2_or_bank1 (m : MbcA) : m.bank2.toNat <<< 5 ||| m.bank1.toNat = 32 * m.bank2.toNat + m.bank1.toNat := by
  rw [← Nat.shiftLeft_add_eq_or_of_lt m.bank1.isLt, Nat.shiftLeft_eq, Nat.mul_comm]

theorem cartRead_a_rom (c : Cart) (j : Nat) (m : MbcA) (hc : c.mbc = .a m) (hj : j < 0x8000) :
    cartRead c j = romByte c (mbcARomOffset c m j) := by
  unfold cartRead; rw [hc]; exact if_pos hj

theorem cartRead_b_rom (c : Cart) (j : Nat) (m : MbcB) (hc : c.mbc = .b m) (hj : j < 0x8000) :
    cartRead c j = romByte c (bankedRomOffset c m.bank.toNat j) := by
  unfold cartRead; rw [hc]; exact if_pos hj

theorem cartRead_c_rom (c : Cart) (j : Nat) (m : MbcC) (hc : c.mbc = .c m) (hj : j < 0x8000) :
    cartRead c j = romByte c (bankedRomOffset c m.bank.toNat j) := by
  unfold cartRead; rw [hc]; exact if_pos hj

/-- The switchable window of Controllers B and C (R146, R151). -/
theorem bankedRomOffset_switchable (c : Cart) (k bank n : Nat) (h : c.romSize = 0x8000 <<< k) (hn : 0x4000 ≤ n) :
    bankedRomOffset c bank n = bank % (2 <<< k) * 0x4000 + (n - 0x4000) := by
  rw [bankedRomOffset, if_neg (by omega), and_romMask c k bank h]

theorem bankedRomOffset_fixed (c : Cart) (bank n : Nat) (hn : n < 0x4000) : bankedRomOffset c bank n = n := if_pos hn

/-- The switchable window of Controller A (R142). -/
theorem mbcARomOffset_switchable (c : Cart) (m : MbcA) (k n : Nat) (h : c.romSize = 0x8000 <<< k) (hn : 0x4000 ≤ n) :
    mbcARomOffset c m n = (32 * m.bank2.toNat + m.bank1.toNat) % (2 <<< k) * 0x4000 + (n - 0x4000) := by
  rw [mbcARomOffset, if_neg (by omega), bank2_or_bank1, and_romMask c k _ h]

/-- The fixed window of Controller A (R141). -/
theorem mbcARomOffset_fixed (c : Cart) (m : MbcA) (k n : Nat) (h : c.romSize = 0x8000 <<< k) (hn : n < 0x4000) :
    mbcARomOffset c m n = (if m.mode then 32 * m.bank2.toNat % (2 <<< k) else 0) * 0x4000 + n := by
  rw [mbcARomOffset, if_pos hn, and_romMask c k _ h, Nat.shiftLeft_eq, Nat.mul_comm m.bank2.toNat]

/-- Settles O44, one controller after the other. -/
theorem romBanks : Obligations.RomBanks := by
  unfold Obligations.RomBanks
  intro c k n hk hn hn'
  refine ⟨fun m hc => ⟨?_, ?_⟩, fun m hc => ⟨?_, ?_⟩, fun m hc => ⟨?_, ?_⟩⟩
  · rw [cartRead_a_rom c n m hc hn', mbcARomOffset_switchable c m k n hk hn]
  · rw [cartRead_a_rom c _ m hc (by omega), mbcARomOffset_fixed c m k _ hk (by omega)]
  · rw [cartRead_b_rom c n m hc hn', bankedRomOffset_switchable c k _ n hk hn]
  · rw [cartRead_b_rom c _ m hc (by omega), bankedRomOffset_fixed c _ _ (by omega)]
  · rw [cartRead_c_rom c n m hc hn', bankedRomOffset_switchable c k _ n hk hn]
  · rw [cartRead_c_rom c _ m hc (by omega), bankedRomOffset_fixed c _ _ (by omega)]

/-! ### The controller registers (R140, R145, R149, R150) -/

/-- RAM is enabled by a low nibble 0x0A. -/
theorem enablesRam_eq (v : Byte) : enablesRam v = decide (v.toNat % 16 = 0x0A) := by
  have e : (v &&& 0x0F).toNat = v.toNat % 16 := by
    rw [BitVec.toNat_and]; exact Nat.and_two_pow_sub_one_eq_mod v.toNat 4
  rw [enablesRam, decide_eq_decide, ← BitVec.toNat_inj, e]
  rfl

/-- The low bits of a byte as a bank register stores them. -/
theorem extractLsb'_zero_eq (w : Nat) (v : Byte) : v.extractLsb' 0 w = BitVec.ofNat w v.toNat :=
  BitVec.eq_of_toNat_eq (by simp)

/-- A primary bank register takes 1 for 0 (R140, R145, R149). -/
theorem bank_of_byte (w : Nat) (v : Byte) : (if v.extractLsb' 0 w = 0 then 1 else v.extractLsb' 0 w) =
    if v.toNat % 2 ^ w = 0 then 1 else BitVec.ofNat w v.toNat := by
  have e : v.extractLsb' 0 w = 0 ↔ v.toNat % 2 ^ w = 0 := by
    rw [extractLsb'_zero_eq, ← BitVec.toNat_inj, BitVec.toNat_ofNat]
    exact Iff.of_eq (congrArg _ BitVec.toNat_zero)
  rw [if_congr e rfl (extractLsb'_zero_eq w v)]

theorem cartWrite_a_reg (c : Cart) (j : Nat) (v : Byte) (m : MbcA) (hc : c.mbc = .a m) (hj : j < 0x8000) :
    cartWrite c j v = { c with mbc := .a (mbcAWriteReg m j v) } := by
  unfold cartWrite; rw [hc]; exact if_pos hj

theorem cartWrite_b_reg (c : Cart) (j : Nat) (v : Byte) (m : MbcB) (hc : c.mbc = .b m) (hj : j < 0x8000) :
    cartWrite c j v = { c with mbc := .b (mbcBWriteReg m j v) } := by
  unfold cartWrite; rw [hc]; exact if_pos hj

theorem cartWrite_c_reg (c : Cart) (j : Nat) (v : Byte) (m : MbcC) (hc : c.mbc = .c m) (hj : j < 0x8000) :
    cartWrite c j v = { c with mbc := .c (mbcCWriteReg m j v) } := by
  unfold cartWrite; rw [hc]; exact if_pos hj

/-- Controller B's register is selected by address bit 8 (R145). -/
theorem testBit_eight (n : Nat) : n.testBit 8 = true ↔ ¬ n / 256 % 2 = 0 := by
  rw [Nat.testBit_eq_decide_div_mod_eq, decide_eq_true_iff]
  omega

/-- Settles O45: each register's new value as a number. -/
theorem controllerWrites : Obligations.ControllerWrites := by
  unfold Obligations.ControllerWrites
  intro c n v hn
  refine ⟨fun m hc => ?_, fun m hc => ?_, fun m hc => ?_⟩
  · have hmode : v.getLsbD 0 = decide (v.toNat % 2 = 1) := Nat.testBit_zero v.toNat
    rw [cartWrite_a_reg c n v m hc hn, mbcAWriteReg, enablesRam_eq, bank_of_byte, extractLsb'_zero_eq, hmode]
    rfl
  · rw [cartWrite_b_reg c n v m hc hn, mbcBWriteReg, enablesRam_eq, bank_of_byte, if_congr (testBit_eight n) rfl rfl,
      ite_not]
    rfl
  · rw [cartWrite_c_reg c n v m hc hn, mbcCWriteReg, enablesRam_eq, bank_of_byte]
    rfl

/-! ### The RAM window (R136, R138, R143, R147, R152, R153, R155) -/

/-- The clock's registers in the order of their selectors 0x08..0x0C (R148). -/
def Rtc.bytes (r : Rtc) : List Byte := [r.seconds, r.minutes, r.hours, r.dayLow, r.dayHigh]

/-- The bits that each clock register has, RTC_MASK (R153). -/
def rtcMasks : List Byte := [0x3F, 0x3F, 0x1F, 0xFF, 0xC1]

theorem rtcGet_eq (r : Rtc) (i : Nat) (hi : i < 5) : rtcGet r (8 + i) = r.bytes.getD i 0 := by
  interval_cases i <;> rfl

theorem rtcSet_bytes (r : Rtc) (i : Nat) (v : Byte) (hi : i < 5) :
    (rtcSet r (8 + i) v).bytes = r.bytes.set i (v &&& rtcMasks.getD i 0) := by
  interval_cases i <;> rfl

/-- Without a controller the window is RAM (R138). -/
theorem cartRead_cartWrite_none (c : Cart) (n : Nat) (v : Byte) (hw : c.ram.wf) (hc : c.mbc = .none)
    (hn : ¬ n < 0x8000) (hr : n - 0xA000 < c.ramLen) : cartRead (cartWrite c n v) n = v := by
  rw [cartWrite_none c n v hc hn, cartRead_none _ n (by rw [ramSet_mbc, hc]) hn]
  exact ramGet_ramSet_same c _ v hw hr

theorem cart_a_disabled (c : Cart) (n : Nat) (v : Byte) (m : MbcA) (hc : c.mbc = .a m) (hn : ¬ n < 0x8000)
    (he : m.ramEnable = false) : cartRead c n = 0xFF ∧ cartWrite c n v = c := by
  simp [cartRead_a c n m hc hn, cartWrite_a c n v m hc hn, he]

/-- Controller A's enabled RAM (R143). -/
theorem cartRead_cartWrite_a (c : Cart) (n : Nat) (v : Byte) (m : MbcA) (hw : c.ram.wf) (hc : c.mbc = .a m)
    (hn : ¬ n < 0x8000) (he : m.ramEnable = true) (hr : mbcARamOffset c m n < c.ramLen) :
    cartRead (cartWrite c n v) n = v := by
  rw [cartWrite_a c n v m hc hn, if_pos he, cartRead_a _ n m (by rw [ramSet_mbc, hc]) hn, if_pos he, mbcARamOffset_ramSet]
  exact ramGet_ramSet_same c _ v hw hr

theorem cart_b_disabled (c : Cart) (n : Nat) (v : Byte) (m : MbcB) (hc : c.mbc = .b m) (hn : ¬ n < 0x8000)
    (he : m.ramEnable = false) : cartRead c n = 0xFF ∧ cartWrite c n v = c := by
  simp [cartRead_b c n m hc hn, cartWrite_b c n v m hc hn, he]

/-- Controller B's enabled RAM: the low nibble, at every address of the same 512-byte offset (R147). -/
theorem cartRead_cartWrite_b (c : Cart) (n j : Nat) (v : Byte) (m : MbcB) (hw : c.ram.wf) (hc : c.mbc = .b m)
    (hn : 0xA000 ≤ n) (hj : 0xA000 ≤ j) (he : m.ramEnable = true) (hjn : j % 512 = n % 512) :
    cartRead (cartWrite c n v) j = 0xF0 ||| (v &&& 0x0F) := by
  have hoff : mbcBRamOffset j = mbcBRamOffset n := by unfold mbcBRamOffset; omega
  rw [cartWrite_b c n v m hc (by omega), if_pos he,
    cartRead_b { c with ram := c.ram.write (mbcBRamOffset n) (v &&& 0x0F) } j m hc (by omega), if_pos he, hoff]
  dsimp only
  rw [Memory.read_write_same _ _ _ hw, BitVec.and_assoc, BitVec.and_self]

theorem cart_c_disabled (c : Cart) (n : Nat) (v : Byte) (m : MbcC) (hc : c.mbc = .c m) (hn : ¬ n < 0x8000)
    (he : m.ramEnable = false) : cartRead c n = 0xFF ∧ cartWrite c n v = c := by
  simp [cartRead_c c n m hc hn, cartWrite_c c n v m hc hn, he]

/-- Controller C with a RAM bank selected (R152, R153). -/
theorem cartRead_cartWrite_c (c : Cart) (n : Nat) (v : Byte) (m : MbcC) (hw : c.ram.wf) (hc : c.mbc = .c m)
    (hn : ¬ n < 0x8000) (he : m.ramEnable = true) (hsel : m.sel.toNat ≤ 3) (hr : mbcCRamOffset c m n < c.ramLen) :
    cartRead (cartWrite c n v) n = v := by
  have he' : ¬ m.ramEnable = false := by simp [he]
  rw [cartWrite_c c n v m hc hn, if_neg he', if_pos hsel, cartRead_c _ n m (by rw [ramSet_mbc, hc]) hn, if_neg he',
    if_pos hsel, mbcCRamOffset_ramSet]
  exact ramGet_ramSet_same c _ v hw hr

/-- Controller C with a clock register selected: the latched copy is read and the live one written (R152, R153). -/
theorem cart_c_clock (c : Cart) (n : Nat) (v : Byte) (m : MbcC) (hc : c.mbc = .c m) (hn : ¬ n < 0x8000)
    (he : m.ramEnable = true) (h8 : 8 ≤ m.sel.toNat) (h12 : m.sel.toNat ≤ 12) (hr : m.hasRtc = true) :
    cartRead c n = rtcGet m.rtcLatched m.sel.toNat ∧
      cartWrite c n v = { c with mbc := .c { m with rtcLive := rtcSet m.rtcLive m.sel.toNat v } } := by
  have he' : ¬ m.ramEnable = false := by simp [he]
  have hbank : ¬ m.sel.toNat ≤ 3 := by omega
  have hclock : 8 ≤ m.sel.toNat ∧ m.sel.toNat ≤ 12 ∧ m.hasRtc = true := ⟨h8, h12, hr⟩
  rw [cartRead_c c n m hc hn, cartWrite_c c n v m hc hn, if_neg he', if_neg he', if_neg hbank, if_neg hbank,
    if_pos hclock, if_pos hclock]
  exact ⟨rfl, rfl⟩

/-- Controller C with a selector that names nothing (R152, R153). -/
theorem cart_c_unmapped (c : Cart) (n : Nat) (v : Byte) (m : MbcC) (hc : c.mbc = .c m) (hn : ¬ n < 0x8000)
    (h3 : 3 < m.sel.toNat) (h : m.sel.toNat < 8 ∨ 12 < m.sel.toNat ∨ m.hasRtc = false) :
    cartRead c n = 0xFF ∧ cartWrite c n v = c := by
  have hclock : ¬ (8 ≤ m.sel.toNat ∧ m.sel.toNat ≤ 12 ∧ m.hasRtc = true) := fun ⟨h8, h12, hr⟩ => by
    rcases h with h | h | h
    · omega
    · omega
    · simp [h] at hr
  have hbank : ¬ m.sel.toNat ≤ 3 := by omega
  rw [cartRead_c c n m hc hn, cartWrite_c c n v m hc hn, if_neg hbank, if_neg hbank, if_neg hclock, if_neg hclock,
    ite_self, ite_self]
  exact ⟨rfl, rfl⟩

/-- Settles O46, one variant after the other. -/
theorem cartridgeRam : Obligations.CartridgeRam := by
  unfold Obligations.CartridgeRam
  intro c n v hinv hn _
  have hw := hinv.ram
  have hr : ¬ n < 0x8000 := by omega
  refine ⟨fun hc => cartRead_cartWrite_none c n v hw hc hr,
    fun m hc => ⟨cart_a_disabled c n v m hc hr, cartRead_cartWrite_a c n v m hw hc hr⟩,
    fun m hc => ⟨cart_b_disabled c n v m hc hr, fun he j hj _ => cartRead_cartWrite_b c n j v m hw hc hn hj he⟩,
    fun m hc => ⟨cart_c_disabled c n v m hc hr, cartRead_cartWrite_c c n v m hw hc hr, fun he h8 h12 hrtc => ?_,
      fun _ => cart_c_unmapped c n v m hc hr⟩,
    fun hc j w => ⟨cartRead_unknown c j hc, cartWrite_unknown c j w hc⟩⟩
  obtain ⟨hread, hwrite⟩ := cart_c_clock c n v m hc hr he h8 h12 hrtc
  have hsel : 8 + (m.sel.toNat - 8) = m.sel.toNat := by omega
  have hget := rtcGet_eq m.rtcLatched (m.sel.toNat - 8) (by omega)
  have hset := rtcSet_bytes m.rtcLive (m.sel.toNat - 8) v (by omega)
  rw [hsel] at hget hset
  exact ⟨hread.trans hget, _, hwrite, hset⟩

/-! ### The header (R130-R133, R144, R160) -/

/-- Creation of a cartridge fails on a short image or a ROM-size code outside the table (R130, R132). -/
theorem createCart_error (p : Params) : (∃ e, createCart p = .error e) ↔
    p.cartRom.length < 0x150 ∨ 8 < (byteAt p.cartRom 0x148).toNat := by
  unfold createCart romSizeOfCode
  split_ifs with hlen hcode
  · simp [hlen]
  · simp [hlen, hcode]
  · simp [hlen, Nat.lt_of_not_le hcode]

theorem romSizeOfCode_some (code size : Nat) (h : romSizeOfCode code = some size) : size = 0x8000 <<< code := by
  unfold romSizeOfCode at h
  split at h
  · exact (Option.some.inj h).symm
  · cases h

/-- The RAM sizes of R133 as a table. -/
theorem ramSizeOfCode_eq : ∀ code, ramSizeOfCode code = [0, 2048, 8192, 32768, 131072, 65536].getD code 0
  | 0 | 1 | 2 | 3 | 4 | 5 => rfl
  | _ + 6 => rfl

/-- The variants of R131 as a table. -/
theorem mbcOfType_eq (code : Nat) : mbcOfType code =
    if code = 0x00 ∨ code = 0x08 ∨ code = 0x09 then .none
    else if code = 0x01 ∨ code = 0x02 ∨ code = 0x03 then .a mbcAInit
    else if code = 0x05 ∨ code = 0x06 then .b mbcBInit
    else if code = 0x0F ∨ code = 0x10 then .c (mbcCInit true)
    else if code = 0x11 ∨ code = 0x12 ∨ code = 0x13 then .c (mbcCInit false)
    else .unknown := by
  unfold mbcOfType
  split <;> simp_all

/-- Controller B has 512 bytes of RAM whatever the code (R144). -/
theorem ramSizeOf_eq (code ramCode : Nat) : ramSizeOf (mbcOfType code) ramCode =
    if code = 5 ∨ code = 6 then 512 else [0, 2048, 8192, 32768, 131072, 65536].getD ramCode 0 := by
  rw [← ramSizeOfCode_eq]
  unfold mbcOfType
  split <;> simp_all [ramSizeOf]

/-- Settles O57: the header's tables. -/
theorem cartridgeCreation : Obligations.CartridgeCreation := by
  unfold Obligations.CartridgeCreation
  intro p
  refine ⟨(create_error p).trans (createCart_error p), fun s hs => ?_⟩
  obtain ⟨-, size, hsize, hc⟩ := createCart_ok p s.cart (create_ok p s hs).1
  rw [hc]
  exact ⟨romSizeOfCode_some _ _ hsize, rfl, ramSizeOf_eq _ _, mbcOfType_eq _⟩

end Sys2Proof.Machine
end

section
/-! SUPPORT. The decoder and the encoder (30_encoding.md R200-R220): the fields of a byte, the encoding of each form in its
fields, and that the two undo each other. -/

namespace Sys2Proof.Machine

/-! ### The fields x, y, z of a byte (R201) and the operand codes (R203, R210, R225) -/

/-- A byte is its fields. -/
theorem exists_fields (b : Byte) : ∃ (x : BitVec 2) (y z : BitVec 3), x ++ y ++ z = b :=
  ⟨b.extractLsb' 6 2, b.extractLsb' 3 3, b.extractLsb' 0 3, calc
    b.extractLsb' 6 2 ++ b.extractLsb' 3 3 ++ b.extractLsb' 0 3
    _ = b.extractLsb' 3 5 ++ b.extractLsb' 0 3 :=
      congrArg (· ++ b.extractLsb' 0 3) (BitVec.extractLsb'_append_extractLsb'_eq_extractLsb' rfl)
    _ = b := BitVec.extractLsb'_append_extractLsb'⟩

/-- A word is its high and low byte (R209). -/
theorem word_of_bytes (n : Word) : n.extractLsb' 8 8 ++ n.extractLsb' 0 8 = n := BitVec.extractLsb'_append_extractLsb'

section
variable (x : BitVec 2) (y z : BitVec 3)

@[simp] theorem fields_x : (x ++ y ++ z).extractLsb' 6 2 = x := by
  rw [BitVec.extractLsb'_append_eq_of_le (by decide)]
  exact BitVec.extractLsb'_append_eq_left

@[simp] theorem fields_y : (x ++ y ++ z).extractLsb' 3 3 = y := by
  rw [BitVec.extractLsb'_append_eq_of_le (by decide)]
  exact BitVec.extractLsb'_append_eq_right

@[simp] theorem fields_z : (x ++ y ++ z).extractLsb' 0 3 = z := BitVec.extractLsb'_append_eq_right

end

theorem block_cases : ∀ x : BitVec 2, x = 0#2 ∨ x = 1#2 ∨ x = 2#2 ∨ x = 3#2 := by decide

theorem field_cases : ∀ y : BitVec 3, y = 0 ∨ y = 1 ∨ y = 2 ∨ y = 3 ∨ y = 4 ∨ y = 5 ∨ y = 6 ∨ y = 7 := by decide

@[simp] theorem codeOfR8_r8OfCode : ∀ z : BitVec 3, codeOfR8 (r8OfCode z.toNat) = z := by decide
@[simp] theorem codeOfAlu_aluOfCode : ∀ y : BitVec 3, codeOfAlu (aluOfCode y.toNat) = y := by decide
@[simp] theorem codeOfRot_rotOfCode : ∀ y : BitVec 3, codeOfRot (rotOfCode y.toNat) = y := by decide
@[simp] theorem codeOfBit_bitOfCode : ∀ y : BitVec 3, codeOfBit (bitOfCode y.toNat) = y := by decide

@[simp] theorem r8OfCode_codeOfR8 (r : R8) : r8OfCode (codeOfR8 r).toNat = r := by
  cases r with
  | reg r => cases r <;> rfl
  | atHl => rfl

@[simp] theorem aluOfCode_codeOfAlu (op : AluOp) : aluOfCode (codeOfAlu op).toNat = op := by cases op <;> rfl
@[simp] theorem rotOfCode_codeOfRot (op : RotOp) : rotOfCode (codeOfRot op).toNat = op := by cases op <;> rfl
@[simp] theorem bitOfCode_codeOfBit (b : BitIx) : bitOfCode (codeOfBit b).toNat = b := by cases b <;> rfl

/-! ### The forms of blocks 1 and 2 and of the prefixed table: their bytes, and what the prefixed ones run -/

section
variable (r : R8) (s : State)

theorem encode_ldInstr (dst : R8) : encode (ldInstr dst r) = [1#2 ++ codeOfR8 dst ++ codeOfR8 r] := by
  unfold ldInstr
  split <;> rfl

theorem encode_aluInstr (op : AluOp) : encode (aluInstr op r) = [2#2 ++ codeOfAlu op ++ codeOfR8 r] := by
  unfold aluInstr
  split <;> rfl

theorem encode_rotInstr (op : RotOp) : encode (rotInstr op r) = [0xCB, 0#2 ++ codeOfRot op ++ codeOfR8 r] := by
  unfold rotInstr
  split <;> rfl

theorem encode_bitInstr (b : BitIx) : encode (bitInstr b r) = [0xCB, 1#2 ++ codeOfBit b ++ codeOfR8 r] := by
  unfold bitInstr
  split <;> rfl

theorem encode_resInstr (b : BitIx) : encode (resInstr b r) = [0xCB, 2#2 ++ codeOfBit b ++ codeOfR8 r] := by
  unfold resInstr
  split <;> rfl

theorem encode_setInstr (b : BitIx) : encode (setInstr b r) = [0xCB, 3#2 ++ codeOfBit b ++ codeOfR8 r] := by
  unfold setInstr
  split <;> rfl

theorem exec_rotInstr (op : RotOp) :
    exec (rotInstr op r) s = finish (if r = .atHl then 4 else 2) (rotR8 op r s) := by
  unfold rotInstr
  split <;> rfl

theorem exec_bitInstr (b : BitIx) :
    exec (bitInstr b r) s = finish (if r = .atHl then 3 else 2) (testBitR8 b r s) := by
  unfold bitInstr
  split <;> rfl

theorem exec_resInstr (b : BitIx) :
    exec (resInstr b r) s = finish (if r = .atHl then 4 else 2) (resBitR8 b r s) := by
  unfold resInstr
  split <;> rfl

theorem exec_setInstr (b : BitIx) :
    exec (setInstr b r) s = finish (if r = .atHl then 4 else 2) (setBitR8 b r s) := by
  unfold setInstr
  split <;> rfl

end

/-! ### The blocks in their fields (R212, R213, R215) -/

section
variable (y z : BitVec 3) (b1 b2 : Byte)

theorem decodeBytes_block0 :
    decodeBytes (0#2 ++ y ++ z) b1 b2 = decodeBlock0 y.toNat z.toNat b1 (b2 ++ b1) := by
  simp only [decodeBytes, fields_x, fields_y, fields_z]; rfl

theorem decodeBytes_block1 :
    decodeBytes (1#2 ++ y ++ z) b1 b2 = ldInstr (r8OfCode y.toNat) (r8OfCode z.toNat) := by
  simp only [decodeBytes, fields_x, fields_y, fields_z]; rfl

theorem decodeBytes_block2 :
    decodeBytes (2#2 ++ y ++ z) b1 b2 = aluInstr (aluOfCode y.toNat) (r8OfCode z.toNat) := by
  simp only [decodeBytes, fields_x, fields_y, fields_z]; rfl

theorem decodeBytes_block3 :
    decodeBytes (3#2 ++ y ++ z) b1 b2 = decodeBlock3 y.toNat z.toNat b1 (b2 ++ b1) := by
  simp only [decodeBytes, fields_x, fields_y, fields_z]; rfl

theorem decodeBytes_prefix : decodeBytes 0xCB b1 b2 = decodeCb b1 := rfl

theorem decodeCb_rot : decodeCb (0#2 ++ y ++ z) = rotInstr (rotOfCode y.toNat) (r8OfCode z.toNat) := by
  simp only [decodeCb, fields_x, fields_y, fields_z]; rfl

theorem decodeCb_bit : decodeCb (1#2 ++ y ++ z) = bitInstr (bitOfCode y.toNat) (r8OfCode z.toNat) := by
  simp only [decodeCb, fields_x, fields_y, fields_z]; rfl

theorem decodeCb_res : decodeCb (2#2 ++ y ++ z) = resInstr (bitOfCode y.toNat) (r8OfCode z.toNat) := by
  simp only [decodeCb, fields_x, fields_y, fields_z]; rfl

theorem decodeCb_set : decodeCb (3#2 ++ y ++ z) = setInstr (bitOfCode y.toNat) (r8OfCode z.toNat) := by
  simp only [decodeCb, fields_x, fields_y, fields_z]; rfl

end

/-- The prefixed table gives every byte a well-formed instruction. -/
theorem wellFormed_decodeCb (b : Byte) : WellFormed (decodeCb b) = true := by
  unfold decodeCb
  dsimp only
  split
  · unfold rotInstr
    split <;> rfl
  · unfold bitInstr
    split <;> rfl
  · unfold resInstr
    split <;> rfl
  · unfold setInstr
    split <;> rfl

/-- The prefixed table drops no bit of the byte (R215). -/
theorem encode_decodeCb (b : Byte) : encode (decodeCb b) = [0xCB, b] := by
  obtain ⟨x, y, z, rfl⟩ := exists_fields b
  rcases block_cases x with rfl | rfl | rfl | rfl
  · rw [decodeCb_rot, encode_rotInstr, codeOfRot_rotOfCode, codeOfR8_r8OfCode]
  · rw [decodeCb_bit, encode_bitInstr, codeOfBit_bitOfCode, codeOfR8_r8OfCode]
  · rw [decodeCb_res, encode_resInstr, codeOfBit_bitOfCode, codeOfR8_r8OfCode]
  · rw [decodeCb_set, encode_setInstr, codeOfBit_bitOfCode, codeOfR8_r8OfCode]

/-- Settles O3: each block in its fields, with the operand codes of its form. -/
theorem decodeFields : Obligations.DecodeFields := by
  unfold Obligations.DecodeFields
  intro dst r op ro b b1 b2
  refine ⟨fun _ => ?_, rfl, ?_, ?_, ?_, ?_, ?_⟩
  · rw [decodeBytes_block1, r8OfCode_codeOfR8, r8OfCode_codeOfR8]
  · rw [decodeBytes_block2, aluOfCode_codeOfAlu, r8OfCode_codeOfR8]
  · rw [decodeBytes_prefix, decodeCb_rot, rotOfCode_codeOfRot, r8OfCode_codeOfR8]
  · rw [decodeBytes_prefix, decodeCb_bit, bitOfCode_codeOfBit, r8OfCode_codeOfR8]
  · rw [decodeBytes_prefix, decodeCb_res, bitOfCode_codeOfBit, r8OfCode_codeOfR8]
  · rw [decodeBytes_prefix, decodeCb_set, bitOfCode_codeOfBit, r8OfCode_codeOfR8]

/-! ### The length of an encoding (R220) -/

/-- The family `Laws.EncodedLength`, gathered over every instruction. -/
theorem encodedLength (i : Instr) : Laws.EncodedLength.Statement i := by cases i <;> rfl

theorem instrLength_of_encode {i : Instr} {b0 : Byte} {l : List Byte} (h : encode i = b0 :: l) :
    instrLength b0 = l.length + 1 := by
  have e := encodedLength i
  rw [Laws.EncodedLength.Statement, h] at e
  exact e.symm

theorem encode_ne_nil (i : Instr) : encode i ≠ [] := fun h => by
  have e := encodedLength i
  rw [Laws.EncodedLength.Statement, h] at e
  exact absurd e (by decide)

/-! ### Encoding undoes decoding -/

/-- Block 0, row by row; the operand byte is the operand word's low byte. -/
theorem encode_decodeBlock0 (y z : BitVec 3) (n : Word) :
    encode (decodeBlock0 y.toNat z.toNat (n.extractLsb' 0 8) n) =
      [0#2 ++ y ++ z, n.extractLsb' 0 8, n.extractLsb' 8 8].take (instrLength (0#2 ++ y ++ z)) := by
  rcases field_cases z with rfl | rfl | rfl | rfl | rfl | rfl | rfl | rfl <;>
    rcases field_cases y with rfl | rfl | rfl | rfl | rfl | rfl | rfl | rfl <;> rfl

/-- Block 3, row by row, with the prefixed table's instructions in the row of 0xCB. -/
theorem encode_decodeBlock3 (y z : BitVec 3) (n : Word) :
    encode (decodeBlock3 y.toNat z.toNat (n.extractLsb' 0 8) n) =
      [3#2 ++ y ++ z, n.extractLsb' 0 8, n.extractLsb' 8 8].take (instrLength (3#2 ++ y ++ z)) := by
  rcases field_cases z with rfl | rfl | rfl | rfl | rfl | rfl | rfl | rfl <;>
    rcases field_cases y with rfl | rfl | rfl | rfl | rfl | rfl | rfl | rfl
  -- z = 3, y = 1: the byte 0xCB
  case inr.inr.inr.inl.inr.inl => exact encode_decodeCb _
  all_goals rfl

/-- Encoding gives back the bytes that were decoded, block by block (R200, R201). -/
theorem encode_decodeBytes (b0 b1 b2 : Byte) :
    encode (decodeBytes b0 b1 b2) = [b0, b1, b2].take (instrLength b0) := by
  obtain ⟨x, y, z, rfl⟩ := exists_fields b0
  obtain ⟨n, rfl, rfl⟩ : ∃ n : Word, n.extractLsb' 0 8 = b1 ∧ n.extractLsb' 8 8 = b2 :=
    ⟨b2 ++ b1, BitVec.extractLsb'_append_eq_right, BitVec.extractLsb'_append_eq_left⟩
  rcases block_cases x with rfl | rfl | rfl | rfl
  · rw [decodeBytes_block0, word_of_bytes, encode_decodeBlock0]
  · have h := encode_ldInstr (r8OfCode z.toNat) (r8OfCode y.toNat)
    rw [codeOfR8_r8OfCode, codeOfR8_r8OfCode] at h
    rw [decodeBytes_block1, h, instrLength_of_encode h]
    rfl
  · have h := encode_aluInstr (r8OfCode z.toNat) (aluOfCode y.toNat)
    rw [codeOfAlu_aluOfCode, codeOfR8_r8OfCode] at h
    rw [decodeBytes_block2, h, instrLength_of_encode h]
    rfl
  · rw [decodeBytes_block3, word_of_bytes, encode_decodeBlock3]

/-- Bytes that decoded to the row PREFIX_CB would begin with 0xCB, so be an instruction of the prefixed table (R467). -/
theorem decodeBytes_ne_prefixCb (b0 b1 b2 op2 : Byte) : decodeBytes b0 b1 b2 ≠ .prefixCb op2 := fun h => by
  have hbytes : encode (.prefixCb op2) <+: [b0, b1, b2] := by
    rw [← h, encode_decodeBytes]
    exact List.take_prefix _ _
  obtain ⟨rfl, -⟩ := List.cons_prefix_cons.1 hbytes
  have hw := wellFormed_decodeCb b1
  rw [← decodeBytes_prefix b1 b2, h] at hw
  cases hw

theorem wellFormed_decodeBytes (b0 b1 b2 : Byte) : WellFormed (decodeBytes b0 b1 b2) = true := by
  have h := decodeBytes_ne_prefixCb b0 b1 b2
  generalize decodeBytes b0 b1 b2 = i at h
  unfold WellFormed isLonePrefix
  split
  · exact absurd rfl (h _)
  · rfl

/-- Settles O2: the bytes by `encode_decodeBytes`, and none of them decode to the row PREFIX_CB. -/
theorem encodeDecode : Obligations.EncodeDecode :=
  fun b0 b1 b2 => ⟨wellFormed_decodeBytes b0 b1 b2, encode_decodeBytes b0 b1 b2⟩

/-! ### Decoding undoes encoding -/

/-- Every constructor's bytes decode to it, where its operands are the bytes themselves or a word of two. -/
theorem decodeBytes_of_encode {i : Instr} (hi : WellFormed i = true) {b0 : Byte} {l : List Byte}
    (h : encode i = b0 :: l) : decodeBytes b0 (l.getD 0 0) (l.getD 1 0) = i := by
  cases i
  case prefixCb => cases hi
  case ldBcN16 n | ldAtN16Sp n | ldDeN16 n | ldHlN16 n | ldSpN16 n | jpNzN16 n | jpN16 n | callNzN16 n | jpZN16 n |
      callZN16 n | callN16 n | jpNcN16 n | callNcN16 n | jpCN16 n | callCN16 n | ldAtN16A n | ldAAtN16 n =>
    cases h
    exact congrArg _ (word_of_bytes n)
  all_goals
    cases h
    rfl

/-- An instruction's bytes are read, and no byte that follows them. -/
theorem decode_append (b0 : Byte) (l rest : List Byte) (h : instrLength b0 = l.length + 1) :
    decode (b0 :: l ++ rest) = .ok (decodeBytes b0 (l.getD 0 0) (l.getD 1 0), rest) := by
  have hread : decodeBytes b0 ((l ++ rest).getD 0 0) ((l ++ rest).getD 1 0) =
      decodeBytes b0 (l.getD 0 0) (l.getD 1 0) := by
    match l with
    | [] => exact decodeBytes_one _ _ _ h
    | [b1] => exact decodeBytes_two _ _ _ h
    | b1 :: b2 :: l => rfl
  rw [List.cons_append, decode, if_neg (by simp [h]), hread, h]
  simp

/-- Settles O1: the encoding's length says which bytes are read (`decode_append`), its constructor what they give. -/
theorem decodeEncode : Obligations.DecodeEncode := by
  unfold Obligations.DecodeEncode
  intro i rest hi
  obtain ⟨b0, l, h⟩ := List.exists_cons_of_ne_nil (encode_ne_nil i)
  rw [h, decode_append b0 l rest (instrLength_of_encode h), decodeBytes_of_encode hi h]

/-! ### The row PREFIX_CB (R467) -/

section
variable (y z : BitVec 3) (s : State)

theorem runCb_rot : runCb (0#2 ++ y ++ z) s =
    finish (if r8OfCode z.toNat = .atHl then 4 else 2) (rotR8 (rotOfCode y.toNat) (r8OfCode z.toNat) s) := by
  simp only [runCb, fields_x, fields_y, fields_z]; rfl

theorem runCb_bit : runCb (1#2 ++ y ++ z) s =
    finish (if r8OfCode z.toNat = .atHl then 3 else 2) (testBitR8 (bitOfCode y.toNat) (r8OfCode z.toNat) s) := by
  simp only [runCb, fields_x, fields_y, fields_z]; rfl

theorem runCb_res : runCb (2#2 ++ y ++ z) s =
    finish (if r8OfCode z.toNat = .atHl then 4 else 2) (resBitR8 (bitOfCode y.toNat) (r8OfCode z.toNat) s) := by
  simp only [runCb, fields_x, fields_y, fields_z]; rfl

theorem runCb_set : runCb (3#2 ++ y ++ z) s =
    finish (if r8OfCode z.toNat = .atHl then 4 else 2) (setBitR8 (bitOfCode y.toNat) (r8OfCode z.toNat) s) := by
  simp only [runCb, fields_x, fields_y, fields_z]; rfl

end

/-- The prefixed table's instruction runs what the table does with its byte, block by block (R215). -/
theorem exec_decodeCb (b : Byte) (s : State) : exec (decodeCb b) s = runCb b s := by
  obtain ⟨x, y, z, rfl⟩ := exists_fields b
  rcases block_cases x with rfl | rfl | rfl | rfl
  · rw [decodeCb_rot, exec_rotInstr, runCb_rot]
  · rw [decodeCb_bit, exec_bitInstr, runCb_bit]
  · rw [decodeCb_res, exec_resInstr, runCb_res]
  · rw [decodeCb_set, exec_setInstr, runCb_set]

theorem exec_prefixCb (b : Byte) (s : State) : exec (.prefixCb b) s = runCb b s := rfl

/-- Settles O25: both sides run what the prefixed table does with its byte. -/
theorem prefixRow : Obligations.PrefixRow := by
  unfold Obligations.PrefixRow
  intro x s
  rw [exec_decodeCb, exec_prefixCb]
  refine ⟨rfl, ?_, encode_decodeCb x, fun b0 b1 b2 => decodeBytes_ne_prefixCb b0 b1 b2 x⟩
  obtain ⟨t, n, -, -, -, h⟩ := completes_runCb x s
  exact ⟨_, h⟩

end Sys2Proof.Machine
end

section
/-! SUPPORT. The CPU step's cases, each with its condition on the state, and the system step as the CPU step and its
device phase (40_step.md R250-R260). -/

namespace Sys2Proof.Machine

/-! ### The device phase (R260) -/

/-- A timer cycle ticks the timer and adds its request to IF. -/
theorem timerCycle_eq_request (s : State) : timerCycle s =
    { s with timer := tickTima (tickDivider s.timer)
             ifReg := s.ifReg ||| if timaOverflows s.timer then (1 : Byte) <<< 2 else 0#8 } := by
  unfold timerCycle
  dsimp only
  split
  · rfl
  · rw [BitVec.or_zero]

/-- A dot does not touch the timer. -/
theorem ppuDot_timer (s : State) : (ppuDot s).timer = s.timer := by
  unfold ppuDot
  split <;> rfl

/-- A dot reads neither the timer nor IF, and only adds requests to IF. -/
theorem ppuDot_withTimerRequest (s : State) (m : Timer) (v : Byte) :
    ppuDot { s with timer := m, ifReg := s.ifReg ||| v } =
      { ppuDot s with timer := m, ifReg := (ppuDot s).ifReg ||| v } := by
  cases h : lcdOn s.ppu with
  | false => simp only [ppuDot, h, Bool.false_eq_true, if_false]
  | true =>
    simp only [ppuDot, h, if_true]
    rw [BitVec.or_assoc, BitVec.or_assoc, BitVec.or_comm v]

/-- The order of a dot and a timer cycle does not matter (R541, R580): they share IF alone, and each only sets bits. -/
theorem ppuDot_timerCycle (s : State) : ppuDot (timerCycle s) = timerCycle (ppuDot s) := by
  rw [timerCycle_eq_request, timerCycle_eq_request, ppuDot_withTimerRequest, ppuDot_timer]

theorem advanceDevices_eq_iterate (n : Nat) (s : State) : advanceDevices n s = timerCycle^[n] (ppuDot^[4 * n] s) := by
  rw [advanceDevices, repeatN_eq_iterate, repeatN_eq_iterate]

theorem step_of_refused {s : State} {r : Refusal} (h : cpuStep s = .refused r) : step s = .refused r := by
  rw [step, systemStep, h]

/-- Settles O36: the device phase as an iteration, and the two ticks commute (`ppuDot_timerCycle`). -/
theorem systemStep_holds : Obligations.SystemStep := by
  unfold Obligations.SystemStep
  refine fun s => ⟨fun t ht => ?_, fun r => step_of_refused, ppuDot_timerCycle s⟩
  exact (step_next s _).2 ⟨t, ht, (advanceDevices_eq_iterate _ t).symm⟩

/-! ### The cases of the CPU step (R251-R255) -/

theorem wake_of_idle {s : State} (h : pending s = 0) : wake s = s := if_neg (not_not.2 h)

/-- A CPU that is not held by a halt goes on with `halted` cleared. -/
theorem wake_of_running {s : State} (h : s.cpu.halted = false ∨ pending s ≠ 0) :
    wake s = s.setCpu { s.cpu with halted := false } := by
  rw [wake_eq]
  rcases h with h | h
  · rw [h, Bool.false_and]
  · rw [decide_eq_false h, Bool.and_false]

/-- A step without a lock or a dispatch is a halted step or an instruction. -/
theorem cpuStep_of_noDispatch {s : State} (hl : s.cpu.locked = false) (hi : s.cpu.ime = false ∨ pending s = 0) :
    cpuStep s = if (wake s).cpu.halted then finish 1 (wake s) else runInstr (wake s) := by
  rw [cpuStep, if_neg (by simp [hl]), if_neg (by rcases hi with h | h <;> simp [h])]

theorem cpuStep_halted {s : State} (hl : s.cpu.locked = false) (hh : s.cpu.halted = true) (hp : pending s = 0) :
    cpuStep s = .next { s with cycles := 1 } := by
  rw [cpuStep_of_noDispatch hl (.inr hp), wake_of_idle hp, if_pos hh, finish]

theorem cpuStep_running {s : State} (hl : s.cpu.locked = false) (hi : s.cpu.ime = false ∨ pending s = 0)
    (hh : s.cpu.halted = false ∨ pending s ≠ 0) : cpuStep s = runInstr (s.setCpu { s.cpu with halted := false }) := by
  rw [cpuStep_of_noDispatch hl hi, wake_of_running hh]
  rfl

/-- Settles O35. -/
theorem haltedLocked : Obligations.HaltedLocked := fun s => ⟨cpuStep_locked s, cpuStep_halted⟩

/-! ### The instruction that a step runs (R255-R257) -/

/-- The three bytes at PC, decoded. -/
def instrAtPc (s : State) : Instr :=
  decodeBytes (memRead s s.cpu.pc) (memRead s (s.cpu.pc + 1)) (memRead s (s.cpu.pc + 2))

theorem instrAtPc_withHalted (s : State) (b : Bool) :
    instrAtPc (s.setCpu { s.cpu with halted := b }) = instrAtPc s := by
  simp only [instrAtPc, State.setCpu_cpu, memRead_setCpu]

/-- Three bytes hold any instruction, so what they decode to is the decoder's answer on all three (R220). -/
theorem decode_three {b0 b1 b2 : Byte} {i : Instr} {rest : List Byte} (h : decode [b0, b1, b2] = .ok (i, rest)) :
    i = decodeBytes b0 b1 b2 := by
  have hlen : ¬ [b0, b1, b2].length < instrLength b0 := by
    rcases instrLength_cases b0 with e | e | e <;> simp [e]
  rw [decode, if_neg hlen] at h
  cases h
  rfl

theorem length_encode_decodeBytes (b0 b1 b2 : Byte) : (encode (decodeBytes b0 b1 b2)).length = instrLength b0 := by
  rw [encode_decodeBytes]
  rcases instrLength_cases b0 with e | e | e <;> rw [e] <;> rfl

/-- The fetch, with PC past the bytes of the instruction's encoding. -/
theorem fetchInstr_eq_encode (s : State) : fetchInstr s =
    (instrAtPc s, s.setPc (s.cpu.pc + BitVec.ofNat 16 (encode (instrAtPc s)).length)) := by
  rw [fetchInstr_eq, instrAtPc, length_encode_decodeBytes]

/-- STOP stands at PC with its first byte. -/
theorem byte_of_instrAtPc_stop {s : State} {x : Byte} (h : instrAtPc s = .stop x) : memRead s s.cpu.pc = 0x10 := by
  have hbytes : encode (.stop x) <+: [memRead s s.cpu.pc, memRead s (s.cpu.pc + 1), memRead s (s.cpu.pc + 2)] := by
    rw [← h, instrAtPc, encode_decodeBytes]
    exact List.take_prefix _ _
  exact (List.cons_prefix_cons.1 hbytes).1.symm

@[simp] theorem applyEi_cycles (b : Bool) (s : State) : (applyEi b s).cycles = s.cycles := by
  rw [applyEi_eq, State.setCpu_cycles]

@[simp] theorem dispatch_cycles (s : State) (k : Nat) : (dispatch s k).cycles = 5 := rfl

/-- The outcome of an instruction (R250): it completes with 1 to 6 cycles, or is STOP, which `refuse` refuses. -/
theorem runInstr_outcome (s : State) : (∃ t, runInstr s = .next t ∧ 1 ≤ t.cycles ∧ t.cycles ≤ 6) ∨
    (runInstr s = .refused .stopRefused ∧ s.stopMode = .refuse ∧ memRead s s.cpu.pc = 0x10) := by
  unfold runInstr
  rw [fetchInstr_eq_encode]
  dsimp only
  rcases exec_cases (instrAtPc s) (s.setPc (s.cpu.pc + BitVec.ofNat 16 (encode (instrAtPc s)).length)) with
    ⟨t, n, -, h1, h6, e⟩ | ⟨⟨x, hx⟩, hmode, e⟩
  · rw [e, finish]
    exact .inl ⟨_, rfl, by simp [h1, h6]⟩
  · rw [e]
    exact .inr ⟨rfl, hmode, byte_of_instrAtPc_stop hx⟩

/-- Settles O37, case by case of the CPU step; an instruction by `runInstr_outcome`. -/
theorem stepOutcomes : Obligations.StepOutcomes := by
  unfold Obligations.StepOutcomes
  intro s
  unfold cpuStep
  split_ifs
  -- locked
  · exact .inl ⟨_, rfl, by simp⟩
  -- dispatch
  · exact .inl ⟨_, rfl, by simp⟩
  -- halted
  · exact .inl ⟨_, rfl, by simp⟩
  -- instruction
  · have h := runInstr_outcome (wake s)
    rw [wake_eq] at h ⊢
    rwa [memRead_setCpu] at h

/-- Settles O33: the step runs (`cpuStep_running`) what `fetchInstr_eq_encode` fetches, then the device phase. -/
theorem stepRunsDecoded : Obligations.StepRunsDecoded := by
  unfold Obligations.StepRunsDecoded
  intro s i rest hlocked hime hhalted hdecode
  obtain rfl : i = instrAtPc s := decode_three hdecode
  have hfetch : fetchInstr (s.setCpu { s.cpu with halted := false }) = (instrAtPc s, s.setCpu { s.cpu with
      halted := false, pc := s.cpu.pc + BitVec.ofNat 16 (encode (instrAtPc s)).length }) := by
    rw [fetchInstr_eq_encode, instrAtPc_withHalted]
    rfl
  refine ⟨wellFormed_decodeBytes _ _ _, ?_⟩
  rw [step, systemStep, cpuStep_running hlocked hime hhalted, runInstr, hfetch]
  dsimp only [State.setCpu]
  cases exec (instrAtPc s) _ with
  | next t =>
    dsimp only
    rw [applyEi_cycles]
    rfl
  | fault r => rfl
  | refused r => rfl

end Sys2Proof.Machine
end

section
/-! SUPPORT. The loads, the stores and the stack (41_load.md): the rows of `LD` by their operands, and the next state of
each shared operation with the CPU written out. -/

namespace Sys2Proof.Machine

/-! ### Eight words (30_encoding.md) -/

/-- The bytes of an instruction, and nothing after them, decode to it. -/
theorem decode_of_encode {i : Instr} {bytes : List Byte} (hi : WellFormed i = true) (h : encode i = bytes) :
    decode bytes = .ok (i, []) := by
  rw [← h, ← List.append_nil (encode i)]
  exact decodeEncode i [] hi

/-- Settles O4: each word is the encoding of its instruction. -/
theorem decodeWords : Obligations.DecodeWords := by
  unfold Obligations.DecodeWords
  refine ⟨?_, ?_, ?_, ?_, ?_, ?_, ?_, ?_⟩
  all_goals exact decode_of_encode rfl rfl

/-! ### The rows of `LD` (R281-R285) -/

section
variable (dst r : Reg8) (n : Byte) (s : State)

theorem exec_ldInstr_reg :
    exec (ldInstr (.reg dst) (.reg r)) s = finish 1 (s.setCpu (s.cpu.set dst (s.cpu.get r))) := by
  cases dst <;> cases r <;> rfl

theorem exec_ldInstr_fromHl :
    exec (ldInstr (.reg dst) .atHl) s = finish 2 (s.setCpu (s.cpu.set dst (memRead s s.cpu.hl))) := by
  cases dst <;> rfl

theorem exec_ldInstr_toHl :
    exec (ldInstr .atHl (.reg r)) s = finish 2 (memWrite s s.cpu.hl (s.cpu.get r)) := by
  cases r <;> rfl

theorem encode_ldImmInstr (d : R8) : encode (ldImmInstr d n) = [0#2 ++ codeOfR8 d ++ 6#3, n] := by
  unfold ldImmInstr
  split <;> rfl

theorem exec_ldImmInstr_reg :
    exec (ldImmInstr (.reg dst) n) s = finish 2 (s.setCpu (s.cpu.set dst n)) := by
  cases dst <;> rfl

end

/-! ### The next state of an operation (R258), its CPU written out -/

theorem finish_setCpu (n : Nat) (s : State) (k : Cpu) :
    finish n (s.setCpu k) = .next { s with cpu := k, cycles := n } := rfl

/-- A bus write leaves the CPU as it was. -/
theorem finish_memWrite (n : Nat) (s : State) (a : Word) (v : Byte) :
    finish n (memWrite s a v) = .next { memWrite s a v with cpu := s.cpu, cycles := n } := by
  rw [← finish_setCpu, ← memWrite_cpu s a v, setCpu_self]

theorem finish_loadAcc (m : R16Mem) (s : State) : finish 2 (loadAcc m s) = .next { s with
    cpu := r16MemAfter { s.cpu with a := memRead s (r16MemAddress s.cpu m) } m, cycles := 2 } := rfl

theorem finish_storeAcc (m : R16Mem) (s : State) : finish 2 (storeAcc m s) =
    .next { memWrite s (r16MemAddress s.cpu m) s.cpu.a with cpu := r16MemAfter s.cpu m, cycles := 2 } := by
  rw [storeAcc_eq, finish_setCpu]

theorem finish_storeSp (n : Word) (s : State) : finish 5 (storeSp n s) =
    .next { memWrite (memWrite s n (loByte s.cpu.sp)) (n + 1) (hiByte s.cpu.sp) with cpu := s.cpu, cycles := 5 } := by
  rw [storeSp, finish_memWrite, memWrite_cpu]

/-- A pair of the registers `x` and `y` is pushed high byte first. -/
theorem finish_pushPair {r : R16Stk} {s : State} {x y : Byte} (h : readR16Stk s.cpu r = concat x y) :
    finish 4 (pushPair r s) = .next { memWrite (memWrite s (s.cpu.sp - 1) x) (s.cpu.sp - 2) y with
      cpu := { s.cpu with sp := s.cpu.sp - 2 }, cycles := 4 } := by
  rw [pushPair_eq, h, hiByte_concat, loByte_concat, finish_setCpu]

theorem finish_popPair (r : R16Stk) (s : State) : finish 3 (popPair r s) = .next { s with
    cpu := writeR16Stk { s.cpu with sp := s.cpu.sp + 2 } r (concat (memRead s (s.cpu.sp + 1)) (memRead s s.cpu.sp))
    cycles := 3 } := by
  rw [popPair_eq, finish_setCpu]

section
variable (k : Cpu) (x y : Byte)

theorem writeR16Stk_bc_concat : writeR16Stk k .bc (concat x y) = { k with b := x, c := y } := by
  rw [writeR16Stk, Cpu.setBc, hiByte_concat, loByte_concat]

theorem writeR16Stk_de_concat : writeR16Stk k .de (concat x y) = { k with d := x, e := y } := by
  rw [writeR16Stk, Cpu.setDe, hiByte_concat, loByte_concat]

theorem writeR16Stk_hl_concat : writeR16Stk k .hl (concat x y) = { k with h := x, l := y } := by
  rw [writeR16Stk, Cpu.setHl, hiByte_concat, loByte_concat]

theorem writeR16Stk_af_concat : writeR16Stk k .af (concat x y) = { k with a := x, f := y &&& 0xF0 } := by
  rw [writeR16Stk, Cpu.setAf, hiByte_concat, loByte_concat]

end

/-! ### The statements -/

/-- Settles O5: the rows of `LD` with a register for destination, one for each kind of source. -/
theorem loadRegister : Obligations.LoadRegister := by
  unfold Obligations.LoadRegister
  intro dst r n s
  exact ⟨⟨encode_ldInstr _ _, exec_ldInstr_reg dst r s⟩, ⟨encode_ldInstr _ _, exec_ldInstr_fromHl dst s⟩,
    ⟨encode_ldImmInstr n _, exec_ldImmInstr_reg dst n s⟩⟩

/-- Settles O6: the CPU is as before by `finish_memWrite`; block 1's row of `(HL)` begins with the five bits 01110. -/
theorem storeAtHl : Obligations.StoreAtHl := by
  unfold Obligations.StoreAtHl
  intro r n s
  refine ⟨⟨encode_ldInstr _ _, ?_⟩, ⟨rfl, finish_memWrite 3 s s.cpu.hl n⟩⟩
  rw [exec_ldInstr_toHl, finish_memWrite]

/-- Settles O7: the address and the step of HL come from the operand (`finish_loadAcc`), or the address is given. -/
theorem loadAccumulator : Obligations.LoadAccumulator := by
  unfold Obligations.LoadAccumulator
  intro n b s
  exact ⟨⟨rfl, finish_loadAcc .bc s⟩, ⟨rfl, finish_loadAcc .de s⟩, ⟨rfl, finish_loadAcc .hlInc s⟩,
    ⟨rfl, finish_loadAcc .hlDec s⟩, ⟨rfl, finish_setCpu 4 s _⟩, ⟨rfl, finish_setCpu 3 s _⟩, ⟨rfl, finish_setCpu 2 s _⟩⟩

/-- Settles O8: the address and the step of HL come from the operand (`finish_storeAcc`), or the address is given. -/
theorem storeAccumulator : Obligations.StoreAccumulator := by
  unfold Obligations.StoreAccumulator
  intro n b s
  exact ⟨⟨rfl, finish_storeAcc .bc s⟩, ⟨rfl, finish_storeAcc .de s⟩, ⟨rfl, finish_storeAcc .hlInc s⟩,
    ⟨rfl, finish_storeAcc .hlDec s⟩, ⟨rfl, finish_memWrite 4 s n _⟩, ⟨rfl, finish_memWrite 3 s (highPage b) _⟩,
    ⟨rfl, finish_memWrite 2 s (highPage s.cpu.c) _⟩⟩

/-- Settles O9: each form is one update of the CPU. -/
theorem loadPair : Obligations.LoadPair := by
  unfold Obligations.LoadPair
  intro n s
  exact ⟨⟨rfl, finish_setCpu 3 s (s.cpu.setBc n)⟩, ⟨rfl, finish_setCpu 3 s (s.cpu.setDe n)⟩,
    ⟨rfl, finish_setCpu 3 s (s.cpu.setHl n)⟩, ⟨rfl, finish_setCpu 3 s { s.cpu with sp := n }⟩,
    ⟨rfl, finish_setCpu 2 s { s.cpu with sp := s.cpu.hl }⟩⟩

/-- Settles O10: a pushed pair is its two registers, concatenated. -/
theorem storePair : Obligations.StorePair := by
  unfold Obligations.StorePair
  intro n s
  exact ⟨⟨rfl, finish_storeSp n s⟩, ⟨rfl, finish_pushPair (r := .bc) rfl⟩, ⟨rfl, finish_pushPair (r := .de) rfl⟩,
    ⟨rfl, finish_pushPair (r := .hl) rfl⟩, ⟨rfl, finish_pushPair (r := .af) rfl⟩⟩

/-- Settles O11: the popped word is taken apart into the pair's two registers, F's low nibble cleared. -/
theorem popPair_holds : Obligations.PopPair := by
  unfold Obligations.PopPair
  intro s
  refine ⟨⟨rfl, (finish_popPair .bc s).trans ?_⟩, ⟨rfl, (finish_popPair .de s).trans ?_⟩,
    ⟨rfl, (finish_popPair .hl s).trans ?_⟩, ⟨rfl, (finish_popPair .af s).trans ?_⟩⟩
  · rw [writeR16Stk_bc_concat]
  · rw [writeR16Stk_de_concat]
  · rw [writeR16Stk_hl_concat]
  · rw [writeR16Stk_af_concat]

end Sys2Proof.Machine
end

section
/-! SUPPORT. The 8-bit arithmetic and logic (42_alu8.md): the instructions of each operation by their operands, and each
result and its flags in the integer arithmetic of the rules. -/

namespace Sys2Proof.Machine

/-! ### The instructions of each operation (R330, R339-R348) -/

section
variable (r : R8) (s : State)

theorem exec_aluInstr (op : AluOp) :
    exec (aluInstr op r) s = finish (if r = .atHl then 2 else 1) (aluAcc op (readR8 s r) s) := by
  unfold aluInstr
  split <;> rfl

theorem encode_aluImmInstr (op : AluOp) (n : Byte) : encode (aluImmInstr op n) = [3#2 ++ codeOfAlu op ++ 6#3, n] := by
  cases op <;> rfl

theorem exec_aluImmInstr (op : AluOp) (n : Byte) : exec (aluImmInstr op n) s = finish 2 (aluAcc op n s) := by
  cases op <;> rfl

theorem encode_incInstr : encode (incInstr r) = [0#2 ++ codeOfR8 r ++ 0b100#3] := by
  unfold incInstr
  split <;> rfl

theorem encode_decInstr : encode (decInstr r) = [0#2 ++ codeOfR8 r ++ 0b101#3] := by
  unfold decInstr
  split <;> rfl

theorem exec_incInstr : exec (incInstr r) s = finish (if r = .atHl then 3 else 1) (incR8 r s) := by
  unfold incInstr
  split <;> rfl

theorem exec_decInstr : exec (decInstr r) s = finish (if r = .atHl then 3 else 1) (decR8 r s) := by
  unfold decInstr
  split <;> rfl

end

/-! ### The next state of an operation (R258), its CPU written out -/

/-- Whatever its form, an ALU instruction runs its operation on A and the operand `v` of the form, and A and F alone hold
what the operation answers; CP drops its result. -/
theorem encode_exec_of_aluForm {op : AluOp} {s : State} {i : Instr} {bytes : List Byte} {v : Byte} {n : Nat}
    {t : Byte × Flags} (h : Safety.AluForm op s i bytes v n) (ht : aluResult op s.cpu.a v s.cpu.flags.c = t) :
    encode i = bytes ∧ exec i s = .next { s with
      cpu := { s.cpu with a := if op = .cp then s.cpu.a else t.1, f := flagByte t.2 }, cycles := n } := by
  rw [← ht, ← finish_setCpu, ← aluAcc_eq]
  cases h with
  | register r => exact ⟨encode_aluInstr _ op, exec_aluInstr _ s op⟩
  | memory => exact ⟨encode_aluInstr _ op, exec_aluInstr _ s op⟩
  | immediate => exact ⟨encode_aluImmInstr op v, exec_aluImmInstr s op v⟩

theorem finish_accOp (op : AccOp) (s : State) : finish 1 (accOp op s) = .next { s with
    cpu := { s.cpu with
      a := (accResult op s.cpu.a s.cpu.flags).1, f := flagByte (accResult op s.cpu.a s.cpu.flags).2 }
    cycles := 1 } := rfl

theorem finish_updateR8_reg (n : Nat) (r : Reg8) (t : Byte × Flags) (s : State) :
    finish n (updateR8 (.reg r) t s) = .next { s with
      cpu := { s.cpu.set r t.1 with f := flagByte t.2 }, cycles := n } := rfl

theorem finish_updateR8_atHl (n : Nat) (t : Byte × Flags) (s : State) :
    finish n (updateR8 .atHl t s) = .next { memWrite s s.cpu.hl t.1 with
      cpu := { s.cpu with f := flagByte t.2 }, cycles := n } := by
  rw [updateR8_atHl, finish_setCpu]
  rfl

/-! ### A byte computed from an integer -/

/-- The Z test of a sum: the narrowed sum is 0 when the exact one is a multiple of 256. -/
theorem ofNat_eq_zero_iff (n : Nat) : BitVec.ofNat 8 n = 0 ↔ n % 256 = 0 := by
  rw [← BitVec.toNat_inj, BitVec.toNat_ofNat]
  rfl

/-- The Z test of a difference, over the integers. -/
theorem ofInt_eq_zero_iff (i : Int) : BitVec.ofInt 8 i = 0 ↔ i % 256 = 0 := by
  rw [← BitVec.toNat_inj, BitVec.toNat_ofInt]
  show (i % 256).toNat = 0 ↔ i % 256 = 0
  omega

theorem add_eq_ofInt (x y : Byte) : x + y = BitVec.ofInt 8 (x.toNat + y.toNat) := by
  apply BitVec.eq_of_toNat_eq
  rw [BitVec.toNat_add, BitVec.toNat_ofInt]
  omega

theorem sub_eq_ofInt (x y : Byte) : x - y = BitVec.ofInt 8 (x.toNat - y.toNat) := by
  apply BitVec.eq_of_toNat_eq
  rw [BitVec.toNat_sub, BitVec.toNat_ofInt]
  omega

theorem toNat_and_low (o : Byte) : (o &&& 0x0F).toNat = o.toNat % 16 := by
  rw [BitVec.toNat_and]
  exact Nat.and_two_pow_sub_one_eq_mod _ 4

/-! ### Results and flags (R331-R334, R338-R340) -/

theorem bitNat_eq_toNat (b : Bool) : bitNat b = b.toNat := by cases b <;> rfl

theorem aluResult_adc (a v : Byte) (c : Bool) : aluResult .adc a v c = addByte a v c.toNat := by
  rw [aluResult, bitNat_eq_toNat]

theorem aluResult_sbc (a v : Byte) (c : Bool) : aluResult .sbc a v c = subByte a v c.toNat := by
  rw [aluResult, bitNat_eq_toNat]

theorem addByte_eq (a v : Byte) (c : Nat) : addByte a v c =
    (BitVec.ofNat 8 (a.toNat + v.toNat + c),
      { z := decide ((a.toNat + v.toNat + c) % 256 = 0), n := false
        h := decide (a.toNat % 16 + v.toNat % 16 + c > 15), c := decide (a.toNat + v.toNat + c > 255) }) := by
  simp only [addByte, ofNat_eq_zero_iff]

theorem subByte_eq (a v : Byte) (c : Nat) : subByte a v c =
    (BitVec.ofInt 8 ((a.toNat : Int) - v.toNat - c),
      { z := decide (((a.toNat : Int) - v.toNat - c) % 256 = 0), n := true
        h := decide (a.toNat % 16 < v.toNat % 16 + c), c := decide (a.toNat < v.toNat + c) }) := by
  simp only [subByte, ofInt_eq_zero_iff]

/-- Without a borrow-in, as SUB and CP have it. -/
theorem subByte_zero (a v : Byte) : subByte a v 0 =
    (BitVec.ofInt 8 ((a.toNat : Int) - v.toNat),
      { z := decide (((a.toNat : Int) - v.toNat) % 256 = 0), n := true
        h := decide (a.toNat % 16 < v.toNat % 16), c := decide (a.toNat < v.toNat) }) := by
  rw [subByte_eq, Int.natCast_zero, Int.sub_zero, Nat.add_zero, Nat.add_zero]

theorem incByte_eq (o : Byte) (g : Flags) : incByte o g =
    (BitVec.ofNat 8 (o.toNat + 1),
      { z := decide ((o.toNat + 1) % 256 = 0), n := false, h := decide (o.toNat % 16 = 15), c := g.c }) := by
  have hsum : o + 1 = BitVec.ofNat 8 (o.toNat + 1) := add_eq_ofInt o 1
  have hlow : o &&& 0x0F = 0x0F ↔ o.toNat % 16 = 15 := by rw [← BitVec.toNat_inj, toNat_and_low]; rfl
  simp only [incByte, hsum, ofNat_eq_zero_iff, hlow]

theorem decByte_eq (o : Byte) (g : Flags) : decByte o g =
    (BitVec.ofInt 8 (o.toNat - 1),
      { z := decide ((o.toNat - 1 : Int) % 256 = 0), n := true, h := decide (o.toNat % 16 = 0), c := g.c }) := by
  have hdiff : o - 1 = BitVec.ofInt 8 (o.toNat - 1) := sub_eq_ofInt o 1
  have hlow : o &&& 0x0F = 0 ↔ o.toNat % 16 = 0 := by rw [← BitVec.toNat_inj, toNat_and_low]; rfl
  simp only [decByte, hdiff, ofInt_eq_zero_iff, hlow]

/-! ### Rotates (R341-R344, R401-R404) -/

/-- The bits below bit k that a shift to the left leaves 0 may be filled by addition. -/
theorem shiftLeft_or_eq_ofNat (x : Byte) {y : Byte} {k : Nat} (hy : y.toNat < 2 ^ k) :
    x <<< k ||| y = BitVec.ofNat 8 (2 ^ k * x.toNat + y.toNat) := by
  apply BitVec.eq_of_toNat_eq
  rw [BitVec.toNat_or, BitVec.toNat_shiftLeft, BitVec.toNat_ofNat, Nat.two_pow_add_eq_or_of_lt hy, Nat.or_mod_two_pow,
    Nat.shiftLeft_eq, Nat.mul_comm, Nat.mod_eq_of_lt y.isLt]

theorem toNat_ushiftRight_eq_div (o : Byte) (k : Nat) : (o >>> k).toNat = o.toNat / 2 ^ k := by
  rw [BitVec.toNat_ushiftRight, Nat.shiftRight_eq_div_pow]

/-- Bit 7, the one a shift to the left drops. -/
theorem getLsbD_seven (o : Byte) : o.getLsbD 7 = decide (o.toNat / 128 = 1) := by
  rw [← BitVec.testBit_toNat, Nat.testBit_eq_decide_div_mod_eq, decide_eq_decide]
  omega

/-- Bit 0, the one a shift to the right drops. -/
theorem getLsbD_zero (o : Byte) : o.getLsbD 0 = decide (o.toNat % 2 = 1) := by
  rw [← BitVec.testBit_toNat, Nat.testBit_eq_decide_div_mod_eq, Nat.pow_zero, Nat.div_one]

/-- A byte shifted right, with bit 0 of `y` as its new bit 7. -/
theorem ushiftRight_one_or_eq_ofNat (o y : Byte) :
    o >>> 1 ||| y <<< 7 = BitVec.ofNat 8 (o.toNat / 2 + 128 * (y.toNat % 2)) := by
  have hlt : (o >>> 1).toNat < 2 ^ 7 := by
    rw [toNat_ushiftRight_eq_div]
    omega
  rw [BitVec.or_comm, shiftLeft_or_eq_ofNat y hlt, toNat_ushiftRight_eq_div]
  apply BitVec.eq_of_toNat_eq
  rw [BitVec.toNat_ofNat, BitVec.toNat_ofNat]
  omega

theorem toNat_ofNat_bitNat (c : Bool) : (BitVec.ofNat 8 (bitNat c)).toNat = c.toNat := by cases c <;> rfl

section
variable (o : Byte) (c : Bool)

theorem rotResult_rlc : rotResult .rlc o c =
    (BitVec.ofNat 8 (2 * o.toNat + o.toNat / 128), decide (o.toNat / 128 = 1)) := by
  have hlt : (o >>> 7).toNat < 2 ^ 1 := by
    rw [toNat_ushiftRight_eq_div]
    omega
  rw [rotResult, shiftLeft_or_eq_ofNat o hlt, toNat_ushiftRight_eq_div, getLsbD_seven]
  rfl

theorem rotResult_rrc : rotResult .rrc o c =
    (BitVec.ofNat 8 (o.toNat / 2 + 128 * (o.toNat % 2)), decide (o.toNat % 2 = 1)) := by
  rw [rotResult, ushiftRight_one_or_eq_ofNat, getLsbD_zero]

theorem rotResult_rl : rotResult .rl o c =
    (BitVec.ofNat 8 (2 * o.toNat + c.toNat), decide (o.toNat / 128 = 1)) := by
  have hlt : (BitVec.ofNat 8 (bitNat c)).toNat < 2 ^ 1 := by
    rw [toNat_ofNat_bitNat]
    exact c.toNat_lt
  rw [rotResult, shiftLeft_or_eq_ofNat o hlt, toNat_ofNat_bitNat, getLsbD_seven]
  rfl

theorem rotResult_rr : rotResult .rr o c =
    (BitVec.ofNat 8 (o.toNat / 2 + 128 * c.toNat), decide (o.toNat % 2 = 1)) := by
  rw [rotResult, ushiftRight_one_or_eq_ofNat, toNat_ofNat_bitNat, Nat.mod_eq_of_lt c.toNat_lt, getLsbD_zero]

end

/-! ### The decimal adjustment (R345) -/

section
variable (a : Byte) (g : Flags)

/-- An adjustment of A on the integers: subtracted after a subtraction, added otherwise. -/
def daaAdjust (on : Bool) (k i : Int) : Int := if on then (if g.n then i - k else i + k) else i

/-- The low nibble is as before after the first adjustment, a multiple of 16. -/
theorem daaAdjust_high_mod (on : Bool) (i : Int) : daaAdjust g on 0x60 i % 16 = i % 16 := by
  unfold daaAdjust
  split_ifs <;> omega

theorem daaHigh_eq_int : daaHigh a g = if g.n then g.c else g.c || decide ((a.toNat : Int) > 0x99) := by
  have h : (a.toNat : Int) > 0x99 ↔ a.toNat > 0x99 := by omega
  simp only [daaHigh, h]

/-- The second test may read the low nibble after the first adjustment, as the rule does. -/
theorem daaLow_eq_int : daaLow a g =
    if g.n then g.h else g.h || decide (daaAdjust g (daaHigh a g) 0x60 a.toNat % 16 > 9) := by
  have h : (a.toNat : Int) % 16 > 9 ↔ a.toNat % 16 > 9 := by omega
  simp only [daaLow, daaAdjust_high_mod, h]

/-- Two adjustments are one, by their sum. -/
theorem daaAdjust_twice (high low : Bool) (i : Int) :
    daaAdjust g low 0x06 (daaAdjust g high 0x60 i) =
      if g.n then i - ((if high then 0x60 else 0) + if low then 0x06 else 0)
      else i + ((if high then 0x60 else 0) + if low then 0x06 else 0) := by
  unfold daaAdjust
  split_ifs <;> omega

theorem daaResult_eq : daaResult a g =
    (BitVec.ofInt 8 (daaAdjust g (daaLow a g) 0x06 (daaAdjust g (daaHigh a g) 0x60 a.toNat)),
      { z := decide (daaAdjust g (daaLow a g) 0x06 (daaAdjust g (daaHigh a g) 0x60 a.toNat) % 256 = 0)
        n := g.n, h := false, c := daaHigh a g }) := by
  have hsum (high low : Bool) : (((if high then 0x60 else 0) + if low then 0x06 else 0 : Byte).toNat : Int) =
      (if high then 0x60 else 0) + if low then 0x06 else 0 := by
    cases high <;> cases low <;> rfl
  simp only [daaResult, add_eq_ofInt a, sub_eq_ofInt, hsum, ← apply_ite, ← daaAdjust_twice, ofInt_eq_zero_iff]

end

theorem xor_ff_eq_ofNat (a : Byte) : a ^^^ 0xFF = BitVec.ofNat 8 (255 - a.toNat) := by
  apply BitVec.eq_of_toNat_eq
  rw [show (0xFF : Byte) = BitVec.allOnes 8 from rfl, BitVec.xor_allOnes, BitVec.toNat_not, BitVec.toNat_ofNat]
  omega

/-! ### The statements -/

/-- Settles O12: both operations are `addByte`, without and with the carry-in. -/
theorem addAdc : Obligations.AddAdc := by
  unfold Obligations.AddAdc
  exact fun s i bytes v n => ⟨fun h => encode_exec_of_aluForm h (addByte_eq _ _ 0),
    fun h => encode_exec_of_aluForm h ((aluResult_adc _ _ _).trans (addByte_eq _ _ _))⟩

/-- Settles O13: the three operations are `subByte`, with a borrow-in for SBC alone. -/
theorem subSbcCp : Obligations.SubSbcCp := by
  unfold Obligations.SubSbcCp
  exact fun s i bytes v n => ⟨fun h => encode_exec_of_aluForm h (subByte_zero _ _),
    fun h => encode_exec_of_aluForm h ((aluResult_sbc _ _ _).trans (subByte_eq _ _ _)),
    fun h => (encode_exec_of_aluForm h (subByte_zero s.cpu.a v) :)⟩

/-- Settles O14: the model answers the results and flags of the rules as they stand. -/
theorem andXorOr : Obligations.AndXorOr := by
  unfold Obligations.AndXorOr
  exact fun s i bytes v n => ⟨fun h => encode_exec_of_aluForm h rfl, fun h => encode_exec_of_aluForm h rfl,
    fun h => encode_exec_of_aluForm h rfl⟩

/-- Settles O15: the target is read, counted and written back, in a register or with the one bus write at HL. -/
theorem incDecByte : Obligations.IncDecByte := by
  unfold Obligations.IncDecByte
  refine fun r s => ⟨⟨encode_incInstr _, ?_⟩, ⟨rfl, ?_⟩, ⟨encode_decInstr _, ?_⟩, ⟨rfl, ?_⟩⟩
  · rw [exec_incInstr, incR8, finish_updateR8_reg, incByte_eq]
    rfl
  · rw [exec_incInstr, incR8, finish_updateR8_atHl, incByte_eq]
    rfl
  · rw [exec_decInstr, decR8, finish_updateR8_reg, decByte_eq]
    rfl
  · rw [exec_decInstr, decR8, finish_updateR8_atHl, decByte_eq]
    rfl

/-- Settles O16: each is its CB rotate on A, but with Z = 0. -/
theorem accRotate : Obligations.AccRotate := by
  unfold Obligations.AccRotate
  refine fun s => ⟨⟨rfl, (finish_accOp .rlca s).trans ?_⟩, ⟨rfl, (finish_accOp .rrca s).trans ?_⟩,
    ⟨rfl, (finish_accOp .rla s).trans ?_⟩, ⟨rfl, (finish_accOp .rra s).trans ?_⟩⟩
  · rw [accResult, rotResult_rlc, accRotFlags]
  · rw [accResult, rotResult_rrc, accRotFlags]
  · rw [accResult, rotResult_rl, accRotFlags]
  · rw [accResult, rotResult_rr, accRotFlags]

/-- Settles O17: the model's one adjustment is the rule's two (`daaResult_eq`), with the rule's tests. -/
theorem decimalAdjust : Obligations.DecimalAdjust := by
  unfold Obligations.DecimalAdjust
  refine fun s => ⟨rfl, (finish_accOp .daa s).trans ?_⟩
  rw [accResult, daaResult_eq, daaLow_eq_int, daaHigh_eq_int]
  rfl

/-- Settles O18: one update of A and F each; CPL's complement is the distance from 255. -/
theorem accFlags : Obligations.AccFlags := by
  unfold Obligations.AccFlags
  refine fun s => ⟨⟨rfl, (finish_accOp .cpl s).trans ?_⟩, ⟨rfl, finish_accOp .scf s⟩, ⟨rfl, finish_accOp .ccf s⟩⟩
  rw [accResult, xor_ff_eq_ofNat]

end Sys2Proof.Machine
end

section
/-! SUPPORT. The 16-bit arithmetic (43_alu16.md): the instructions of each operation by their register pair, and each
result in the integer arithmetic of the rules. -/

namespace Sys2Proof.Machine

/-! ### The instructions of each operation (R381-R383) -/

section
variable (r : R16) (s : State)

theorem encode_incPairInstr : encode (incPairInstr r) = [0#2 ++ codeOfR16 r ++ 0b0011#4] := by
  cases r <;> rfl

theorem exec_incPairInstr : exec (incPairInstr r) s = finish 2 (incR16 r s) := by
  cases r <;> rfl

theorem encode_decPairInstr : encode (decPairInstr r) = [0#2 ++ codeOfR16 r ++ 0b1011#4] := by
  cases r <;> rfl

theorem exec_decPairInstr : exec (decPairInstr r) s = finish 2 (decR16 r s) := by
  cases r <;> rfl

theorem encode_addHlInstr : encode (addHlInstr r) = [0#2 ++ codeOfR16 r ++ 0b1001#4] := by
  cases r <;> rfl

theorem exec_addHlInstr : exec (addHlInstr r) s = finish 2 (addHl r s) := by
  cases r <;> rfl

end

/-! ### The next state of an operation (R258), its CPU written out -/

section
variable (s : State)

theorem finish_addHl (r : R16) : finish 2 (addHl r s) = .next { s with
    cpu := { s.cpu with
      h := hiByte (s.cpu.hl + readR16 s.cpu r), l := loByte (s.cpu.hl + readR16 s.cpu r)
      f := flagByte (addWord s.cpu.hl (readR16 s.cpu r) s.cpu.flags).2 }
    cycles := 2 } := rfl

theorem finish_addSp (e : Byte) : finish 4 (addSp e s) = .next { s with
    cpu := { s.cpu with sp := s.cpu.sp + sext16 e, f := flagByte (addSigned s.cpu.sp e).2 }, cycles := 4 } := rfl

theorem finish_loadHlSp (e : Byte) : finish 3 (loadHlSp e s) = .next { s with
    cpu := { s.cpu with
      h := hiByte (s.cpu.sp + sext16 e), l := loByte (s.cpu.sp + sext16 e)
      f := flagByte (addSigned s.cpu.sp e).2 }
    cycles := 3 } := rfl

end

/-! ### A word computed from an integer -/

theorem word_add_ofInt (v : Word) (i : Int) : v + BitVec.ofInt 16 i = BitVec.ofInt 16 (v.toNat + i) := by
  rw [BitVec.ofInt_add, BitVec.ofInt_natCast, BitVec.ofNat_toNat, BitVec.setWidth_eq]

theorem word_add_one (v : Word) : v + 1 = BitVec.ofNat 16 (v.toNat + 1) := BitVec.add_def v 1

/-- Subtracting 1 is adding the word of -1. -/
theorem word_sub_one (v : Word) : v - 1 = BitVec.ofInt 16 (v.toNat - 1) := by
  have hneg : -(1 : Word) = BitVec.ofInt 16 (-1) := rfl
  rw [BitVec.sub_eq_add_neg, hneg, word_add_ofInt, Int.sub_eq_add_neg]

/-- The sign extension of R11 is the word of the signed value. -/
theorem word_add_sext16 (v : Word) (e : Byte) : v + sext16 e = BitVec.ofInt 16 (v.toNat + e.toInt) :=
  word_add_ofInt v e.toInt

theorem hiByte_ofNat (n : Nat) : hiByte (BitVec.ofNat 16 n) = BitVec.ofNat 8 (n / 256) := by
  apply BitVec.eq_of_toNat_eq
  rw [hiByte, BitVec.extractLsb'_toNat, BitVec.toNat_ofNat, BitVec.toNat_ofNat, Nat.shiftRight_eq_div_pow]
  omega

theorem loByte_ofNat (n : Nat) : loByte (BitVec.ofNat 16 n) = BitVec.ofNat 8 n := by
  apply BitVec.eq_of_toNat_eq
  rw [loByte, BitVec.extractLsb'_toNat, BitVec.toNat_ofNat, BitVec.toNat_ofNat, Nat.shiftRight_zero]
  omega

/-! ### The statements -/

/-- Settles O20: HL gets the two bytes of the exact sum; the flags are the rule's own tests. -/
theorem addPair : Obligations.AddPair := by
  unfold Obligations.AddPair
  refine fun r s => ⟨encode_addHlInstr r, ?_⟩
  rw [exec_addHlInstr, finish_addHl, BitVec.add_def, hiByte_ofNat, loByte_ofNat]
  rfl

/-- Settles O21: SP plus the sign-extended byte is the word of the integer sum; the carries do not use the sign. -/
theorem spOffset : Obligations.SpOffset := by
  unfold Obligations.SpOffset
  refine fun e s => ⟨⟨rfl, (finish_addSp s e).trans ?_⟩, ⟨rfl, (finish_loadHlSp s e).trans ?_⟩⟩
  · rw [word_add_sext16]
    rfl
  · rw [word_add_sext16]
    rfl

/-- Settles O19: the pair is read, counted and written back; writing a pair changes no flag. -/
theorem incDecPair : Obligations.IncDecPair := by
  unfold Obligations.IncDecPair
  refine fun r s => ⟨⟨encode_incPairInstr r, ?_⟩, ⟨encode_decPairInstr r, ?_⟩,
    fun v => ⟨readR16_writeR16_same s.cpu r v, writeR16_f s.cpu r v⟩⟩
  · rw [exec_incPairInstr, incR16, word_add_one, finish_setCpu]
  · rw [exec_decPairInstr, decR16, word_sub_one, finish_setCpu]

end Sys2Proof.Machine
end

section
/-! SUPPORT. The CB-prefixed instructions (44_cb_prefix.md): each result and its flags in the integer arithmetic of the
rules, and the bits of BIT, RES and SET by their powers of two. -/

namespace Sys2Proof.Machine

/-! ### The shifts and rotates (R401-R408) -/

section
variable (o : Byte) (c : Bool)

theorem rotResult_sla : rotResult .sla o c = (BitVec.ofNat 8 (2 * o.toNat), decide (o.toNat / 128 = 1)) := by
  have hfill : o <<< 1 = BitVec.ofNat 8 (2 ^ 1 * o.toNat + 0) := by
    rw [← BitVec.or_zero (x := o <<< 1)]
    exact shiftLeft_or_eq_ofNat o (y := 0) (by decide)
  rw [rotResult, hfill, getLsbD_seven]
  rfl

/-- Bit 7 alone, as the mask and as a shift down and up again give it. -/
theorem and_bit_seven : o &&& (0x80 : Byte) = o >>> 7 <<< 7 := by
  have hmask : (o &&& 0x80).toNat = o.toNat / 2 ^ 7 % 2 * 2 ^ 7 := by
    rw [← Nat.toNat_testBit, ← Nat.and_two_pow]
    exact BitVec.toNat_and o 0x80
  apply BitVec.eq_of_toNat_eq
  rw [hmask, BitVec.toNat_shiftLeft, toNat_ushiftRight_eq_div, Nat.shiftLeft_eq]
  omega

theorem rotResult_sra : rotResult .sra o c =
    (BitVec.ofNat 8 (o.toNat / 2 + 128 * (o.toNat / 128)), decide (o.toNat % 2 = 1)) := by
  have hlt : (o >>> 7).toNat < 2 := by
    rw [toNat_ushiftRight_eq_div]
    omega
  rw [rotResult, and_bit_seven, ushiftRight_one_or_eq_ofNat, Nat.mod_eq_of_lt hlt, toNat_ushiftRight_eq_div,
    getLsbD_zero]
  rfl

theorem rotResult_swap : rotResult .swap o c = (BitVec.ofNat 8 (16 * o.toNat + o.toNat / 16), false) := by
  have hlt : (o >>> 4).toNat < 2 ^ 4 := by
    rw [toNat_ushiftRight_eq_div]
    omega
  rw [rotResult, shiftLeft_or_eq_ofNat o hlt, toNat_ushiftRight_eq_div]
  rfl

theorem rotResult_srl : rotResult .srl o c = (BitVec.ofNat 8 (o.toNat / 2), decide (o.toNat % 2 = 1)) := by
  have hhalf : (o >>> 1).toNat = o.toNat / 2 := toNat_ushiftRight_eq_div o 1
  rw [rotResult, ← hhalf, BitVec.ofNat_toNat, BitVec.setWidth_eq, getLsbD_zero]

end

/-- The result, before it is narrowed to a byte, and the bit that goes to C, for an operand `o` and flag C = `c` as
numbers. -/
def rotNat (op : RotOp) (o c : Nat) : Nat × Nat :=
  match op with
  | .rlc => (2 * o + o / 128, o / 128)
  | .rrc => (o / 2 + 128 * (o % 2), o % 2)
  | .rl => (2 * o + c, o / 128)
  | .rr => (o / 2 + 128 * c, o % 2)
  | .sla => (2 * o, o / 128)
  | .sra => (o / 2 + 128 * (o / 128), o % 2)
  | .swap => (16 * o + o / 16, 0)
  | .srl => (o / 2, o % 2)

/-- The flags of a shift or rotate from its numbers. -/
def rotNatFlags (t : Nat × Nat) : Flags := { z := decide (t.1 % 256 = 0), n := false, h := false, c := decide (t.2 = 1) }

/-- The model's shifts and rotates on bits are the rules' arithmetic. -/
theorem rotResult_eq_rotNat (op : RotOp) (o : Byte) (c : Bool) : rotResult op o c =
    (BitVec.ofNat 8 (rotNat op o.toNat c.toNat).1, decide ((rotNat op o.toNat c.toNat).2 = 1)) :=
  match op with
  | .rlc => rotResult_rlc o c
  | .rrc => rotResult_rrc o c
  | .rl => rotResult_rl o c
  | .rr => rotResult_rr o c
  | .sla => rotResult_sla o c
  | .sra => rotResult_sra o c
  | .swap => rotResult_swap o c
  | .srl => rotResult_srl o c

theorem rotFlags_ofNat (t : Nat × Nat) : rotFlags (BitVec.ofNat 8 t.1, decide (t.2 = 1)) = rotNatFlags t := by
  simp only [rotFlags, rotNatFlags, ofNat_eq_zero_iff]

theorem rotR8_eq (op : RotOp) (r : R8) (s : State) : rotR8 op r s =
    updateR8 r (BitVec.ofNat 8 (rotNat op (readR8 s r).toNat s.cpu.flags.c.toNat).1,
      rotNatFlags (rotNat op (readR8 s r).toNat s.cpu.flags.c.toNat)) s := by
  rw [rotR8, rotResult_eq_rotNat, rotFlags_ofNat]

/-! ### The bit operations (R409-R411) -/

/-- The complement of a bit, by division. -/
theorem not_getLsbD_eq_decide (o : Byte) (k : Nat) : (!o.getLsbD k) = decide (o.toNat / 2 ^ k % 2 = 0) := by
  rw [← BitVec.testBit_toNat, Nat.testBit_eq_decide_div_mod_eq, ← decide_not, decide_eq_decide, Nat.mod_two_not_eq_one]

theorem one_shiftLeft_eq_ofNat (k : Nat) : (1 : Byte) <<< k = BitVec.ofNat 8 (2 ^ k) :=
  BitVec.eq_of_toNat_eq (BitVec.toNat_twoPow 8 k)

theorem resBit_eq (b : BitIx) (o : Byte) : resBit b o = o &&& ~~~ BitVec.ofNat 8 (2 ^ bitNumber b) := by
  rw [resBit, one_shiftLeft_eq_ofNat]

theorem setBit_eq (b : BitIx) (o : Byte) : setBit b o = o ||| BitVec.ofNat 8 (2 ^ bitNumber b) := by
  rw [setBit, one_shiftLeft_eq_ofNat]

theorem finish_testBitR8 (n : Nat) (b : BitIx) (r : R8) (s : State) : finish n (testBitR8 b r s) = .next { s with
    cpu := { s.cpu with
      f := flagByte { z := decide ((readR8 s r).toNat / 2 ^ bitNumber b % 2 = 0), n := false, h := true
                      c := s.cpu.flags.c } }
    cycles := n } := by
  rw [testBitR8, bitFlags, not_getLsbD_eq_decide, finish_setCpu]
  rfl

/-! ### The statements -/

/-- Settles O22: the operand is read, shifted or rotated as `rotNat` says, and written back, in a register or with the
one bus write at HL. -/
theorem shiftRotate : Obligations.ShiftRotate := by
  unfold Obligations.ShiftRotate
  refine fun op r s => ⟨⟨encode_rotInstr _ op, ?_⟩, ⟨encode_rotInstr _ op, ?_⟩⟩
  · rw [exec_rotInstr, rotR8_eq, finish_updateR8_reg]
    rfl
  · rw [exec_rotInstr, rotR8_eq, finish_updateR8_atHl]
    rfl

/-- Settles O23: one update of F, whose Z is the complement of the operand's bit. -/
theorem testBit : Obligations.TestBit := by
  unfold Obligations.TestBit
  exact fun b r s => ⟨⟨encode_bitInstr _ b, (exec_bitInstr _ s b).trans (finish_testBitR8 2 b (.reg r) s)⟩,
    ⟨encode_bitInstr _ b, (exec_bitInstr _ s b).trans (finish_testBitR8 3 b .atHl s)⟩⟩

/-- Settles O24: the operand is read, masked with the bit's power of two and written back, and F is not written. -/
theorem resetSetBit : Obligations.ResetSetBit := by
  unfold Obligations.ResetSetBit
  refine fun b r s => ⟨⟨encode_resInstr _ b, ?_⟩, ⟨encode_resInstr _ b, ?_⟩, ⟨encode_setInstr _ b, ?_⟩,
    ⟨encode_setInstr _ b, ?_⟩⟩
  · rw [exec_resInstr, resBitR8, resBit_eq, writeR8_reg, finish_setCpu]
    rfl
  · rw [exec_resInstr, resBitR8, resBit_eq, writeR8_atHl, finish_memWrite]
    rfl
  · rw [exec_setInstr, setBitR8, setBit_eq, writeR8_reg, finish_setCpu]
    rfl
  · rw [exec_setInstr, setBitR8, setBit_eq, writeR8_atHl, finish_memWrite]
    rfl

end Sys2Proof.Machine
end

section
/-! SUPPORT. Jumps, calls, returns and restarts (45_control.md): a conditional row by the flag that it tests, and the
next state of each shared operation with the CPU written out. -/

namespace Sys2Proof.Machine

/-! ### A conditional row by its flag (R207, R430) -/

section
variable {cc : Cond} {base taken : Nat} {f : State → State} {s : State} {flag : Bool} {t u : Result}

/-- A row that is taken when the flag is set answers `t`, and `u` when the flag is clear. -/
theorem branch_of_flag (hc : holds s.cpu cc = flag) (ht : finish taken (f s) = t) (hu : finish base s = u) :
    branch cc base taken f s = if flag then t else u := by
  rw [branch_eq, hc, ht, hu]

/-- A row that is taken when the flag is clear answers `u` when the flag is set, and `t` otherwise. -/
theorem branch_of_not_flag (hc : holds s.cpu cc = !flag) (ht : finish taken (f s) = t) (hu : finish base s = u) :
    branch cc base taken f s = if flag then u else t := by
  rw [branch_eq, hc, ht, hu]
  cases flag <;> rfl

end

/-! ### The conditional rows by their condition and the restarts by their number (R208, R432-R440) -/

section
variable (cc : Cond) (n : Word) (e : Byte) (t : RstTarget) (s : State)

theorem exec_jpInstr : exec (jpInstr cc n) s = branch cc 3 4 (·.setPc n) s := by
  cases cc <;> rfl

theorem exec_jrInstr : exec (jrInstr cc e) s = branch cc 2 3 (jumpRel e) s := by
  cases cc <;> rfl

theorem exec_callInstr : exec (callInstr cc n) s = branch cc 3 6 (call n) s := by
  cases cc <;> rfl

theorem exec_retInstr : exec (retInstr cc) s = branch cc 2 5 popPc s := by
  cases cc <;> rfl

theorem encode_rstInstr : encode (rstInstr t) = [3#2 ++ codeOfRst t ++ 7#3] := by
  cases t <;> rfl

theorem exec_rstInstr : exec (rstInstr t) s = finish 4 (call (rstAddress t) s) := by
  cases t <;> rfl

theorem rstAddress_eq_code_mul_eight : rstAddress t = BitVec.ofNat 16 ((codeOfRst t).toNat * 8) := by
  cases t <;> rfl

end

/-! ### The next state of an operation (R258), its CPU written out -/

section
variable (n : Nat) (s : State)

theorem finish_setPc (a : Word) :
    finish n (s.setPc a) = .next { s with cpu := { s.cpu with pc := a }, cycles := n } := rfl

theorem finish_jumpRel (e : Byte) : finish n (jumpRel e s) = .next { s with
    cpu := { s.cpu with pc := BitVec.ofInt 16 (s.cpu.pc.toNat + e.toInt) }, cycles := n } := by
  rw [jumpRel, word_add_sext16, finish_setPc]

theorem finish_call (a : Word) : finish n (call a s) =
    .next { memWrite (memWrite s (s.cpu.sp - 1) (hiByte s.cpu.pc)) (s.cpu.sp - 2) (loByte s.cpu.pc) with
      cpu := { s.cpu with sp := s.cpu.sp - 2, pc := a }, cycles := n } := by
  rw [call_eq, finish_setCpu]

theorem finish_popPc : finish n (popPc s) = .next { s with
    cpu := { s.cpu with sp := s.cpu.sp + 2, pc := memRead s (s.cpu.sp + 1) ++ memRead s s.cpu.sp }, cycles := n } := by
  rw [popPc_eq, finish_setCpu, concat]

theorem finish_returnInterrupt : finish n (returnInterrupt s) = .next { s with
    cpu := { s.cpu with
      sp := s.cpu.sp + 2, pc := memRead s (s.cpu.sp + 1) ++ memRead s s.cpu.sp, ime := true, eiPending := false }
    cycles := n } := by
  rw [returnInterrupt_eq, finish_setCpu, concat]

end

/-! ### The statements -/

/-- Settles O26: a jump writes PC alone, with the address, HL or the signed sum of `finish_jumpRel`; an untaken one
leaves PC past the instruction. -/
theorem jumps : Obligations.Jumps := by
  unfold Obligations.Jumps
  intro n e s
  have absolute := finish_setPc 4 s n
  have rel := finish_jumpRel 3 s e
  exact ⟨⟨rfl, absolute⟩, ⟨rfl, finish_setPc 1 s s.cpu.hl⟩, ⟨rfl, rel⟩,
    ⟨rfl, (exec_jpInstr .nz n s).trans (branch_of_not_flag rfl absolute rfl)⟩,
    ⟨rfl, (exec_jpInstr .z n s).trans (branch_of_flag rfl absolute rfl)⟩,
    ⟨rfl, (exec_jpInstr .nc n s).trans (branch_of_not_flag rfl absolute rfl)⟩,
    ⟨rfl, (exec_jpInstr .c n s).trans (branch_of_flag rfl absolute rfl)⟩,
    ⟨rfl, (exec_jrInstr .nz e s).trans (branch_of_not_flag rfl rel rfl)⟩,
    ⟨rfl, (exec_jrInstr .z e s).trans (branch_of_flag rfl rel rfl)⟩,
    ⟨rfl, (exec_jrInstr .nc e s).trans (branch_of_not_flag rfl rel rfl)⟩,
    ⟨rfl, (exec_jrInstr .c e s).trans (branch_of_flag rfl rel rfl)⟩⟩

/-- Settles O27: a call or restart pushes PC with the two bus writes of `finish_call`; an untaken call only counts its
cycles. -/
theorem callsRestarts : Obligations.CallsRestarts := by
  unfold Obligations.CallsRestarts
  intro n t s
  have taken := finish_call 6 s n
  refine ⟨⟨rfl, taken⟩,
    ⟨rfl, (exec_callInstr .nz n s).trans (branch_of_not_flag rfl taken rfl)⟩,
    ⟨rfl, (exec_callInstr .z n s).trans (branch_of_flag rfl taken rfl)⟩,
    ⟨rfl, (exec_callInstr .nc n s).trans (branch_of_not_flag rfl taken rfl)⟩,
    ⟨rfl, (exec_callInstr .c n s).trans (branch_of_flag rfl taken rfl)⟩,
    ⟨encode_rstInstr t, ?_⟩⟩
  rw [exec_rstInstr, rstAddress_eq_code_mul_eight, finish_call]

/-- Settles O28: a return pops PC (`finish_popPc`), and RETI sets IME and drops a pending EI in the same update of
the CPU (`finish_returnInterrupt`); an untaken return only counts its cycles. -/
theorem returns : Obligations.Returns := by
  unfold Obligations.Returns
  intro s
  have taken := finish_popPc 5 s
  exact ⟨⟨rfl, finish_popPc 4 s⟩,
    ⟨rfl, (exec_retInstr .nz s).trans (branch_of_not_flag rfl taken rfl)⟩,
    ⟨rfl, (exec_retInstr .z s).trans (branch_of_flag rfl taken rfl)⟩,
    ⟨rfl, (exec_retInstr .nc s).trans (branch_of_not_flag rfl taken rfl)⟩,
    ⟨rfl, (exec_retInstr .c s).trans (branch_of_flag rfl taken rfl)⟩,
    ⟨rfl, finish_returnInterrupt 4 s⟩⟩

end Sys2Proof.Machine
end

section
/-! SUPPORT. Processor control, STOP and the illegal opcodes (46_system.md): each is one update of the CPU, or none. -/

namespace Sys2Proof.Machine

/-- The lock of an illegal opcode (R465), its CPU written out. -/
theorem finish_lockCpu (n : Nat) (s : State) :
    finish n (lockCpu s) = .next { s with cpu := { s.cpu with locked := true }, cycles := n } := by
  rw [lockCpu, finish_setCpu]

/-! ### The statements -/

/-- Settles O29: NOP only counts its cycle, and DI clears IME and the pending EI in one update of the CPU. -/
theorem nopDi : Obligations.NopDi := by
  unfold Obligations.NopDi
  exact fun s => ⟨⟨rfl, rfl⟩, ⟨rfl, finish_setCpu 1 s { s.cpu with ime := false, eiPending := false }⟩⟩

/-- Settles O30: each is one update of the CPU, of `halted` or of `ei_pending`. -/
theorem haltEi : Obligations.HaltEi := by
  unfold Obligations.HaltEi
  exact fun s => ⟨⟨rfl, finish_setCpu 1 s { s.cpu with halted := true }⟩,
    ⟨rfl, finish_setCpu 1 s { s.cpu with eiPending := true }⟩⟩

/-- Settles O31: `exec_stop` under each STOP_MODE; the second byte is not read. -/
theorem stopModes : Obligations.StopModes := by
  unfold Obligations.StopModes
  refine fun x s => ⟨rfl, fun nop2 => ?_, fun refuse => ?_⟩
  · simp only [exec_stop, nop2, finish]
  · simp only [exec_stop, refuse]

/-- Settles O32: the eleven rows of the list one by one, and each locks the CPU (`finish_lockCpu`). -/
theorem illegalOpcodes : Obligations.IllegalOpcodes := by
  unfold Obligations.IllegalOpcodes
  intro s i op row
  simp only [List.mem_cons, List.not_mem_nil, or_false, Prod.mk.injEq] at row
  obtain ⟨rfl, rfl⟩ | ⟨rfl, rfl⟩ | ⟨rfl, rfl⟩ | ⟨rfl, rfl⟩ | ⟨rfl, rfl⟩ | ⟨rfl, rfl⟩ | ⟨rfl, rfl⟩ | ⟨rfl, rfl⟩ |
    ⟨rfl, rfl⟩ | ⟨rfl, rfl⟩ | ⟨rfl, rfl⟩ := row
  all_goals exact ⟨rfl, finish_lockCpu 1 s⟩

end Sys2Proof.Machine
end

section
/-! SUPPORT. The PPU's dot (60_exceptions.md R540-R547): what its mode part does to the position in the frame and to the
registers, and from it the frame's timing, the end of a dot and the LCD switched off. -/

namespace Sys2Proof.Machine

open Sys2Proof.Safety

/-! ### The mode part of a dot (R541, R543, R547) -/

section
variable (p : Ppu) (vram oam : Memory)

@[simp] theorem ppuAdvance_lcdc : (ppuAdvance p vram oam).ppu.lcdc = p.lcdc := by
  unfold ppuAdvance
  dsimp only
  split <;> split_ifs <;> rfl

@[simp] theorem ppuAdvance_stat : (ppuAdvance p vram oam).ppu.stat = p.stat := by
  unfold ppuAdvance
  dsimp only
  split <;> split_ifs <;> rfl

/-- `frame_ready` is raised with vblank (R547). -/
theorem ppuAdvance_frameReady : (ppuAdvance p vram oam).ppu.frameReady =
    (p.frameReady || (ppuAdvance p vram oam).vblank) := by
  unfold ppuAdvance
  dsimp only
  split <;> split_ifs <;> simp [renderLine]

/-- The mode entered is the new mode, where it is not the old one (R543). -/
theorem ppuAdvance_entered : (ppuAdvance p vram oam).entered =
    Option.guard (· ≠ p.mode) (ppuAdvance p vram oam).ppu.mode := by
  unfold ppuAdvance
  dsimp only
  split <;> rename_i hm <;> split_ifs <;> simp [hm, Option.guard]

theorem ppuAdvance_enters (m : PpuMode) : decide ((ppuAdvance p vram oam).entered = some m) =
    (decide ((ppuAdvance p vram oam).ppu.mode = m) && decide (p.mode ≠ m)) := by
  rw [ppuAdvance_entered, ← Bool.decide_and, decide_eq_decide, Option.guard_eq_some_iff, decide_eq_true_iff, eq_comm]
  exact and_congr_right fun e => by rw [← e, ne_comm]

/-- The vblank request is the entry into vblank (R547). -/
theorem ppuAdvance_vblank : (ppuAdvance p vram oam).vblank =
    decide ((ppuAdvance p vram oam).entered = some .vblank) := by
  unfold ppuAdvance
  dsimp only
  split <;> split_ifs <;> rfl

/-- A line of the frame counts up without wrapping its byte. -/
theorem toNat_ly_add_one {p : Ppu} (h : p.ly.toNat < 154) : (p.ly + 1).toNat = p.ly.toNat + 1 := by
  rw [BitVec.toNat_add]
  exact Nat.mod_eq_of_lt (by show p.ly.toNat + 1 < 256; omega)

theorem ly_lt_of_inPosition {p : Ppu} (h : InPosition p) : p.ly.toNat < 154 ∧ p.dot < 456 := by
  unfold InPosition at h
  split at h <;> omega

/-- The number of a dot in the frame of 154 lines of 456 dots (R542). -/
def framePosition (p : Ppu) : Nat := p.ly.toNat * 456 + p.dot

/-- A dot of the frame table goes to the next one, and after the frame's last one to its first (R541, R542). -/
theorem ppuAdvance_position (h : InPosition p) : InPosition (ppuAdvance p vram oam).ppu ∧
    framePosition (ppuAdvance p vram oam).ppu = (framePosition p + 1) % 70224 := by
  have hly : (p.ly + 1).toNat = p.ly.toNat + 1 := toNat_ly_add_one (ly_lt_of_inPosition h).1
  have hzero : (0 : Byte).toNat = 0 := rfl
  have h144 : p.ly + 1 = 144 ↔ p.ly.toNat + 1 = 144 := by rw [← hly]; exact BitVec.toNat_inj.symm
  have h154 : p.ly + 1 = 154 ↔ p.ly.toNat + 1 = 154 := by rw [← hly]; exact BitVec.toNat_inj.symm
  unfold InPosition at h
  unfold ppuAdvance
  dsimp only
  split <;> rename_i hm <;> simp only [hm, h144, h154] at h ⊢
  all_goals split_ifs
  -- each of the ten branches is the next entry of the table, by linear arithmetic
  all_goals
    simp only [InPosition, framePosition, renderLine, hly, hzero]
    omega

end

/-! ### The dot (R540, R545) -/

theorem ppuDot_off {s : State} (h : lcdOn s.ppu = false) : ppuDot s = s := by
  rw [ppuDot, if_neg (by simp [h])]

theorem ppuDot_on {s : State} (h : lcdOn s.ppu = true) : ppuDot s =
    { s with ppu := updateStat (ppuAdvance s.ppu s.vram s.oam).ppu
             ifReg := s.ifReg ||| ppuRequests (ppuAdvance s.ppu s.vram s.oam) } := if_pos h

/-- Dots of a frame with the LCD on: the position goes on by their number, and the LCD stays on. -/
theorem iterate_ppuDot_position {s : State} (hon : lcdOn s.ppu = true) (h : InPosition s.ppu) (k : Nat) :
    lcdOn (ppuDot^[k] s).ppu = true ∧ InPosition (ppuDot^[k] s).ppu ∧
      framePosition (ppuDot^[k] s).ppu = (framePosition s.ppu + k) % 70224 := by
  induction k with
  | zero =>
    have hlt : framePosition s.ppu < 70224 := by
      have := ly_lt_of_inPosition h
      unfold framePosition
      omega
    rw [Function.iterate_zero_apply, Nat.add_zero, Nat.mod_eq_of_lt hlt]
    exact ⟨hon, h, rfl⟩
  | succ k ih =>
    obtain ⟨on, inPos, pos⟩ := ih
    rw [Function.iterate_succ_apply', ppuDot_on on]
    obtain ⟨inPos', pos'⟩ := ppuAdvance_position _ (ppuDot^[k] s).vram (ppuDot^[k] s).oam inPos
    refine ⟨(congrArg (·.getLsbD 7) (ppuAdvance_lcdc ..)).trans on, inPos', pos'.trans ?_⟩
    rw [pos, Nat.mod_add_mod, Nat.add_assoc]

/-- Settles O48: each dot goes one place on in the frame table (`ppuAdvance_position`), by induction on the dots. -/
theorem frameTiming : Obligations.FrameTiming := by
  unfold Obligations.FrameTiming
  exact fun s k hon h => (iterate_ppuDot_position hon h k).2

/-- Settles O49: the mode part of a dot says which mode it enters (`ppuAdvance_enters`), and STAT and IF follow. -/
theorem dotStatus : Obligations.DotStatus := by
  unfold Obligations.DotStatus
  intro s hon
  rw [ppuDot_on hon]
  refine ⟨?_, ?_, ?_⟩
  · simp only [updateStat, coincidence, ppuAdvance_stat, decide_eq_true_eq]
  · simp only [ppuRequests, statRequest, ppuAdvance_vblank, ppuAdvance_enters, ppuAdvance_stat, updateStat, coincidence,
      BitVec.or_assoc]
  · show (ppuAdvance s.ppu s.vram s.oam).ppu.frameReady = _
    rw [ppuAdvance_frameReady, ppuAdvance_vblank, ppuAdvance_enters]
    rfl

/-- Settles O47: a dot with the LCD off is the identity (`ppuDot_off`). -/
theorem lcdOff : Obligations.LcdOff := by
  unfold Obligations.LcdOff
  exact fun s k hoff => Function.iterate_fixed (ppuDot_off hoff) k

end Sys2Proof.Machine
end

section
/-! SUPPORT. The sprites of a line and its background row (60_exceptions.md R548-R559): which entries are listed, which
listed sprite is drawn at a pixel, and the row that a render without window and sprites leaves. -/

namespace Sys2Proof.Machine

/-! ### Sprite selection (R548) -/

/-- The first `k` numbers below `n` with a property: those with fewer than `k` of them before. -/
theorem mem_take_filter_range (f : Nat → Bool) (k n i : Nat) : i ∈ ((List.range n).filter f).take k ↔
    i < n ∧ f i = true ∧ ((List.range i).filter f).length < k := by
  induction n with
  | zero => simp
  | succ n ih =>
    have last : i ∈ ([n].filter f).take (k - ((List.range n).filter f).length) ↔
        i = n ∧ f i = true ∧ ((List.range i).filter f).length < k := by
      constructor
      · intro h
        obtain ⟨hi, hf⟩ := List.mem_filter.1 (List.mem_of_mem_take h)
        obtain rfl := List.mem_singleton.1 hi
        have room := List.length_pos_of_mem h
        rw [List.length_take] at room
        exact ⟨rfl, hf, by omega⟩
      · rintro ⟨rfl, hf, hlt⟩
        obtain ⟨d, hd⟩ := Nat.exists_eq_add_of_lt hlt
        simp [hf, hd, Nat.add_assoc]
    rw [List.range_succ, List.filter_append, List.take_append, List.mem_append, ih, last, Nat.lt_succ_iff_lt_or_eq,
      or_and_right]

/-- Settles O50: the list is ascending and short (`selectSprites_inv`), and holds the first ten covering entries. -/
theorem spriteSelection : Obligations.SpriteSelection := by
  unfold Obligations.SpriteSelection
  intro p oam
  obtain ⟨length, -, ascending⟩ := selectSprites_inv p oam
  exact ⟨ascending, length, mem_take_filter_range (covers oam p.ly (spriteHeight p)) 10 40⟩

/-! ### Sprite priority (R558, R559) -/

/-- Entry `i` has a non-transparent pixel at column `x` of line `ly` (R558). -/
def OpaqueAt (p : Ppu) (vram oam : Memory) (ly x i : Nat) : Prop :=
  (oam.read (4 * i + 1)).toNat ≤ x + 8 ∧ x < (oam.read (4 * i + 1)).toNat ∧
    spriteIndex p vram (spriteAt oam i) ly x ≠ 0

/-- Entry `i` goes before entry `j`: smaller X, or at equal X the smaller index (R559). -/
def Before (oam : Memory) (i j : Nat) : Prop :=
  (oam.read (4 * i + 1)).toNat < (oam.read (4 * j + 1)).toNat ∨ (oam.read (4 * i + 1) = oam.read (4 * j + 1) ∧ i < j)

theorem hasPriority_iff (oam : Memory) (i j : Nat) :
    hasPriority (spriteAt oam i) (spriteAt oam j) = true ↔ Before oam i j := decide_eq_true_iff

theorem Before.trans {oam : Memory} {i j k : Nat} (h : Before oam i j) (g : Before oam j k) : Before oam i k := by
  simp only [Before, ← BitVec.toNat_inj] at *
  omega

/-- Two entries have an order (R559). -/
theorem Before.total {oam : Memory} {i j : Nat} (hne : i ≠ j) (h : ¬ Before oam i j) : Before oam j i := by
  simp only [Before, ← BitVec.toNat_inj] at *
  omega

/-- What the pass over the listed entries `l` has found: none of them opaque, or the first of the opaque ones in the
order of R559, with its index. -/
def BestOf (p : Ppu) (vram oam : Memory) (ly x : Nat) (l : List Nat) (best : Option (Sprite × Shade)) : Prop :=
  match best with
  | none => ∀ i ∈ l, ¬ OpaqueAt p vram oam ly x i
  | some (o, c) => ∃ i ∈ l, o = spriteAt oam i ∧ c = spriteIndex p vram (spriteAt oam i) ly x ∧
      OpaqueAt p vram oam ly x i ∧ ∀ j ∈ l, OpaqueAt p vram oam ly x j → j ≠ i → Before oam i j

section
variable {p : Ppu} {vram oam : Memory} {ly x i : Nat}

theorem opaqueAt_iff : (spriteHits (spriteAt oam i) x && decide (spriteIndex p vram (spriteAt oam i) ly x ≠ 0)) = true ↔
    OpaqueAt p vram oam ly x i := by
  rw [Bool.and_eq_true, spriteHits, decide_eq_true_iff, decide_eq_true_iff, and_assoc]
  rfl

theorem bestSprite_not_opaque (best : Option (Sprite × Shade)) (h : ¬ OpaqueAt p vram oam ly x i) :
    bestSprite p vram oam ly x best i = best := if_neg (mt opaqueAt_iff.1 h)

theorem bestSprite_none (h : OpaqueAt p vram oam ly x i) : bestSprite p vram oam ly x none i =
    some (spriteAt oam i, spriteIndex p vram (spriteAt oam i) ly x) := if_pos (opaqueAt_iff.2 h)

theorem bestSprite_some (q : Sprite) (d : Shade) (h : OpaqueAt p vram oam ly x i) :
    bestSprite p vram oam ly x (some (q, d)) i = if hasPriority (spriteAt oam i) q then
      some (spriteAt oam i, spriteIndex p vram (spriteAt oam i) ly x) else some (q, d) := if_pos (opaqueAt_iff.2 h)

/-- One more listed entry: it is taken where it is opaque and goes before the best so far. -/
theorem BestOf.snoc {l : List Nat} {best : Option (Sprite × Shade)} (h : BestOf p vram oam ly x l best) (i : Nat) :
    BestOf p vram oam ly x (l ++ [i]) (bestSprite p vram oam ly x best i) := by
  have self (j : Nat) (hj : j ∈ [i]) : j = i := List.mem_singleton.1 hj
  by_cases hi : OpaqueAt p vram oam ly x i
  · match best, h with
    | none, h =>
      rw [bestSprite_none hi]
      exact ⟨i, by simp, rfl, rfl, hi, List.forall_mem_append.2
        ⟨fun j hj hopaque => absurd hopaque (h j hj), fun j hj _ hne => absurd (self j hj) hne⟩⟩
    | some (_, _), ⟨b, hb, rfl, rfl, hbopaque, least⟩ =>
      rw [bestSprite_some _ _ hi]
      by_cases hib : Before oam i b
      · rw [if_pos ((hasPriority_iff oam i b).2 hib)]
        refine ⟨i, by simp, rfl, rfl, hi, List.forall_mem_append.2
          ⟨fun j hj hopaque _ => ?_, fun j hj _ hne => absurd (self j hj) hne⟩⟩
        by_cases hjb : j = b
        · rwa [hjb]
        · exact hib.trans (least j hj hopaque hjb)
      · rw [if_neg (mt (hasPriority_iff oam i b).1 hib)]
        refine ⟨b, by simp [hb], rfl, rfl, hbopaque, List.forall_mem_append.2 ⟨least, fun j hj _ hne => ?_⟩⟩
        obtain rfl := self j hj
        exact Before.total hne hib
  · rw [bestSprite_not_opaque best hi]
    have skip (j : Nat) (hj : j ∈ [i]) : ¬ OpaqueAt p vram oam ly x j := self j hj ▸ hi
    match best, h with
    | none, h => exact List.forall_mem_append.2 ⟨h, skip⟩
    | some (_, _), ⟨b, hb, rfl, rfl, hbopaque, least⟩ =>
      exact ⟨b, by simp [hb], rfl, rfl, hbopaque, List.forall_mem_append.2
        ⟨least, fun j hj hopaque => absurd hopaque (skip j hj)⟩⟩

theorem bestOf_foldl (l : List Nat) : BestOf p vram oam ly x l (l.foldl (bestSprite p vram oam ly x) none) := by
  induction l using List.reverseRecOn with
  | nil => exact fun i hi => absurd hi List.not_mem_nil
  | append_singleton l i ih =>
    rw [List.foldl_append]
    exact ih.snoc i

end

/-- Settles O51: the pass over the list keeps the best entry so far (`BestOf.snoc`). -/
theorem spritePriority : Obligations.SpritePriority := by
  unfold Obligations.SpritePriority
  intro p vram oam ly x
  exact bestOf_foldl p.spriteList

/-! ### The background row (R550-R553) -/

/-- The shade of index `i` is the i-th bit pair of the palette (R553). -/
theorem toNat_shade (palette : Byte) (i : Shade) : (shade palette i).toNat = palette.toNat / 4 ^ i.toNat % 4 := by
  rw [shade, BitVec.toNat_setWidth, BitVec.toNat_ushiftRight, Nat.shiftRight_eq_div_pow, Nat.pow_mul]

/-- The index of a pixel: its bit of the second byte of the row, then of the first (R552). -/
theorem toNat_pixelIndex (vram : Memory) (off c : Nat) : (pixelIndex vram off c).toNat =
    2 * ((vram.read (off + 1)).toNat / 2 ^ (7 - c) % 2) + (vram.read off).toNat / 2 ^ (7 - c) % 2 := by
  have bits : ∀ hi lo : Bool, (BitVec.ofBool hi ++ BitVec.ofBool lo).toNat = 2 * hi.toNat + lo.toNat := by decide
  rw [pixelIndex, bits, BitVec.getLsbD, BitVec.getLsbD, Nat.toNat_testBit, Nat.toNat_testBit]

/-- The row `y` of a tile stands at the tile's offset, in both addressings (R551). -/
theorem tileOffset_add (p : Ppu) (t : Byte) (y : Nat) : tileOffset p t + y =
    if p.lcdc.getLsbD 4 then 16 * t.toNat + y else (0x1000 + 16 * t.toInt + (y : Nat)).toNat := by
  have := BitVec.le_two_mul_toInt (x := t)
  unfold tileOffset
  split <;> omega

theorem spritePixel_off (p : Ppu) (vram oam : Memory) (ly x : Nat) (q : Pixel) (h : p.lcdc.getLsbD 1 = false) :
    spritePixel p vram oam ly x q = q := if_neg (h ▸ Bool.false_ne_true)

theorem windowPixel_off (p : Ppu) (vram : Memory) (ly x : Nat) (q : Pixel) (h : p.lcdc.getLsbD 5 = false) :
    windowPixel p vram ly x q = q := by
  have hidden : windowVisible p ly = false := by
    simp only [windowVisible, h, Bool.and_false, Bool.false_and]
  rw [windowPixel, hidden]
  rfl

/-- A pixel with window and sprites off is the background's (R550). -/
theorem renderPixel_background (p : Ppu) (vram oam : Memory) (ly x : Nat) (hs : p.lcdc.getLsbD 1 = false)
    (hw : p.lcdc.getLsbD 5 = false) : renderPixel p vram oam ly x = backgroundPixel p vram ly x := by
  rw [renderPixel, spritePixel_off _ _ _ _ _ _ hs, windowPixel_off _ _ _ _ _ hw]

/-- The background's shade at column `x` of line `ly` (R553, R554). -/
theorem toNat_backgroundPixel_shade (p : Ppu) (vram : Memory) (ly x : Nat) :
    (backgroundPixel p vram ly x).shade.toNat = if p.lcdc.getLsbD 0 then
      p.bgp.toNat / 4 ^ (mapPixel p vram (mapOffset (p.lcdc.getLsbD 3)) ((x + p.scx.toNat) % 256)
        ((ly + p.scy.toNat) % 256)).toNat % 4 else 0 := by
  unfold backgroundPixel
  split
  · exact toNat_shade _ _
  · rfl

/-- The row a render writes, column by column (R550). -/
theorem renderLine_row (p : Ppu) (vram oam : Memory) (x : Nat) (hly : p.ly.toNat < p.framebuffer.length)
    (hx : x < 160) :
    ((renderLine p vram oam).framebuffer.getD p.ly.toNat []).getD x 0 =
      (renderPixel p vram oam p.ly.toNat x).shade := by
  simp [renderLine, hly, hx]

theorem renderLine_other_row (p : Ppu) (vram oam : Memory) (r : Nat) (h : r ≠ p.ly.toNat) :
    (renderLine p vram oam).framebuffer.getD r [] = p.framebuffer.getD r [] := by
  simp [renderLine, List.getElem?_set_ne h.symm]

/-- Settles O52: the row is the background's (`renderPixel_background`), whose index comes from the tile's two bytes. -/
theorem backgroundLine : Obligations.BackgroundLine := by
  unfold Obligations.BackgroundLine
  intro p vram oam x hlen hly hx hs hw
  refine ⟨by simp [renderLine, hlen], ?_, fun r _ => renderLine_other_row p vram oam r⟩
  rw [renderLine_row p vram oam x (hlen ▸ hly) hx, renderPixel_background _ _ _ _ _ hs hw, toNat_backgroundPixel_shade,
    mapPixel, toNat_pixelIndex, tileOffset_add]
  rfl

end Sys2Proof.Machine
end

section
/-! SUPPORT. The timer (60_exceptions.md R580-R584): the divider and the programmable counter through any number of
cycles. -/

namespace Sys2Proof.Machine

/-! ### One cycle (R580) -/

/-- The divider and the programmable counter share no part of the timer. -/
theorem timerCycle_timer (s : State) : (timerCycle s).timer = { tickTima s.timer with
    div := (tickDivider s.timer).div, divCounter := (tickDivider s.timer).divCounter } := by
  rw [timerCycle_eq_request]
  simp only [tickTima, timaDue, tickDivider]
  split <;> split_ifs <;> rfl

theorem timerCycle_ifReg (s : State) :
    (timerCycle s).ifReg = if timaOverflows s.timer then s.ifReg ||| 0x04 else s.ifReg := by
  unfold timerCycle
  split <;> rfl

/-! ### The divider (R581, R584) -/

/-- DIV and its counter after one cycle, as the quotient and the remainder of one count. -/
theorem tickDivider_eq (t : Timer) (h : t.divCounter < 64) : tickDivider t = { t with
    divCounter := (t.divCounter + 1) % 64, div := t.div + BitVec.ofNat 8 ((t.divCounter + 1) / 64) } := by
  unfold tickDivider
  split_ifs with hc
  · rw [hc]
    rfl
  · have hlt : t.divCounter + 1 < 64 := by omega
    rw [Nat.mod_eq_of_lt hlt, Nat.div_eq_of_lt hlt, BitVec.add_zero]

/-- Settles O53, by induction on the cycles: the counter and DIV are the remainder and the quotient of one count. -/
theorem dividerRate : Obligations.DividerRate := by
  unfold Obligations.DividerRate
  intro s k h
  induction k with
  | zero => simp [Nat.mod_eq_of_lt h, Nat.div_eq_of_lt h]
  | succ k ih =>
    obtain ⟨counter, div⟩ := ih
    have hlt : (timerCycle^[k] s).timer.divCounter < 64 := counter ▸ Nat.mod_lt _ (by decide)
    rw [Function.iterate_succ_apply', timerCycle_timer, tickDivider_eq _ hlt, counter, div]
    dsimp only
    have carry : (s.timer.divCounter + k) / 64 + ((s.timer.divCounter + k) % 64 + 1) / 64 =
        (s.timer.divCounter + (k + 1)) / 64 := by omega
    exact ⟨by omega, by rw [BitVec.add_assoc, ← BitVec.ofNat_add, carry]⟩

/-! ### The programmable counter (R582, R583) -/

/-- The period, as the table of 10_state.md R51 lists it. -/
theorem timerPeriod_eq (tac : Byte) : timerPeriod tac = ([256, 4, 16, 64] : List Nat).getD (tac.toNat % 4) 0 := by
  rw [timerPeriod, extractLsb'_zero_eq, BitVec.toNat_ofNat]
  have hlt : tac.toNat % 2 ^ 2 < 4 := Nat.mod_lt _ (by decide)
  generalize tac.toNat % 2 ^ 2 = i at hlt
  interval_cases i <;> rfl

/-- From `s` to `t` TIMA, TMA, TAC and IF hold, and TIMA's counter stands at `c`. -/
structure TimaHolds (s t : State) (c : Nat) : Prop where
  tima : t.timer.tima = s.timer.tima
  tma : t.timer.tma = s.timer.tma
  tac : t.timer.tac = s.timer.tac
  ifReg : t.ifReg = s.ifReg
  counter : t.timer.timaCounter = c

theorem TimaHolds.refl (s : State) : TimaHolds s s s.timer.timaCounter := ⟨rfl, rfl, rfl, rfl, rfl⟩

theorem TimaHolds.trans {s t u : State} {c d : Nat} (h : TimaHolds s t c) (g : TimaHolds t u d) : TimaHolds s u d :=
  ⟨g.tima.trans h.tima, g.tma.trans h.tma, g.tac.trans h.tac, g.ifReg.trans h.ifReg, g.counter⟩

/-- A cycle in which TIMA is not due: its counter counts where TIMA is enabled (R582). -/
theorem timerCycle_not_due {s : State} (h : timaDue s.timer = false) : TimaHolds s (timerCycle s)
    (if s.timer.tac.getLsbD 2 then s.timer.timaCounter + 1 else s.timer.timaCounter) := by
  have hif : (timerCycle s).ifReg = s.ifReg := by rw [timerCycle_ifReg, timaOverflows, h]; rfl
  have htick : tickTima s.timer = if s.timer.tac.getLsbD 2 then
      { s.timer with timaCounter := s.timer.timaCounter + 1 } else s.timer := if_neg (h ▸ Bool.false_ne_true)
  refine ⟨?_, ?_, ?_, hif, ?_⟩ <;> rw [timerCycle_timer, htick] <;> split <;> rfl

/-- A cycle in which TIMA is due: it counts up, or at 0xFF reloads and requests the interrupt (R582, R583). -/
theorem timerCycle_due {s : State} (h : timaDue s.timer = true) : (timerCycle s).timer.timaCounter = 0 ∧
    (timerCycle s).timer.tima = (if s.timer.tima = 0xFF then s.timer.tma else s.timer.tima + 1) ∧
    (timerCycle s).ifReg = (if s.timer.tima = 0xFF then s.ifReg ||| 0x04 else s.ifReg) := by
  rw [timerCycle_timer, timerCycle_ifReg, tickTima, if_pos h]
  refine ⟨rfl, rfl, ?_⟩
  simp only [timaOverflows, h, Bool.true_and, decide_eq_true_eq]

theorem iterate_timerCycle_disabled {s : State} (h : s.timer.tac.getLsbD 2 = false) (k : Nat) :
    TimaHolds s (timerCycle^[k] s) s.timer.timaCounter := by
  induction k with
  | zero => exact .refl s
  | succ k ih =>
    have off : (timerCycle^[k] s).timer.tac.getLsbD 2 = false := ih.tac ▸ h
    have held := timerCycle_not_due (s := timerCycle^[k] s) (by rw [timaDue, off, Bool.false_and])
    rw [off, ih.counter] at held
    rw [Function.iterate_succ_apply']
    exact ih.trans held

/-- The cycles until TIMA is due again, one where its counter is at the period already or past it. -/
def timaWait (t : Timer) : Nat := max 1 (timerPeriod t.tac - t.timaCounter)

theorem iterate_timerCycle_waiting {s : State} (h : s.timer.tac.getLsbD 2 = true) (k : Nat)
    (hk : k < timaWait s.timer) : TimaHolds s (timerCycle^[k] s) (s.timer.timaCounter + k) := by
  induction k with
  | zero => exact .refl s
  | succ k ih =>
    unfold timaWait at hk ih
    have wait := ih (by omega)
    have on : (timerCycle^[k] s).timer.tac.getLsbD 2 = true := wait.tac ▸ h
    have notDue : timaDue (timerCycle^[k] s).timer = false := by
      rw [timaDue, wait.counter, wait.tac, Bool.and_eq_false_imp]
      exact fun _ => decide_eq_false (by omega)
    have held := timerCycle_not_due notDue
    rw [on, wait.counter] at held
    rw [Function.iterate_succ_apply']
    exact wait.trans held

/-- The cycle that ends the wait. -/
theorem iterate_timerCycle_due {s : State} (h : s.timer.tac.getLsbD 2 = true) :
    (timerCycle^[timaWait s.timer] s).timer.timaCounter = 0 ∧
    (timerCycle^[timaWait s.timer] s).timer.tima = (if s.timer.tima = 0xFF then s.timer.tma else s.timer.tima + 1) ∧
    (timerCycle^[timaWait s.timer] s).ifReg = (if s.timer.tima = 0xFF then s.ifReg ||| 0x04 else s.ifReg) := by
  obtain ⟨n, hn⟩ : ∃ n, timaWait s.timer = n + 1 := Nat.exists_eq_add_one.2 (by unfold timaWait; omega)
  have wait := iterate_timerCycle_waiting h n (by omega)
  have due : timaDue (timerCycle^[n] s).timer = true := by
    rw [timaDue, wait.counter, wait.tac, h, Bool.true_and]
    unfold timaWait at hn
    exact decide_eq_true (by omega)
  have last := timerCycle_due due
  rw [wait.tima, wait.tma, wait.ifReg] at last
  rw [hn, Function.iterate_succ_apply']
  exact last

/-- A write to TAC changes TAC alone (20_memory.md R112). -/
theorem memWrite_tac (s : State) (v : Byte) : memWrite s 0xFF07 v = { s with timer := { s.timer with tac := v } } :=
  memWrite_ioOffset s 7 v (by decide)

/-- Settles O54: the cycles of a wait hold TIMA, and the one after them is due. -/
theorem timaCycle : Obligations.TimaCycle := by
  unfold Obligations.TimaCycle
  intro s
  rw [← timerPeriod_eq]
  refine ⟨fun off k => ?_, fun on => ⟨fun k hk => ?_, iterate_timerCycle_due on⟩, memWrite_tac s⟩
  · have held := iterate_timerCycle_disabled off k
    exact ⟨held.tima, held.counter, held.ifReg⟩
  · have held := iterate_timerCycle_waiting on k hk
    exact ⟨held.tima, held.ifReg⟩

end Sys2Proof.Machine
end

section
/-! SUPPORT. The joypad (60_exceptions.md R600-R604): the host's actions, and P1's low bits. -/

namespace Sys2Proof.Machine

/-- A latch that its select bit leaves out reads as ones (R602). -/
theorem getLsbD_latch (out : Bool) (latch : BitVec 4) (i : Nat) (hi : i < 4) :
    (if out then 0xF else latch).getLsbD i = (out || latch.getLsbD i) := by
  cases out with
  | false => rfl
  | true =>
    rw [if_pos rfl, Bool.true_or]
    interval_cases i <;> rfl

theorem getLsbD_joypadNibble (j : Joypad) (i : Nat) (hi : i < 4) : (joypadNibble j).getLsbD i =
    ((j.p1.getLsbD 4 || j.direction.getLsbD i) && (j.p1.getLsbD 5 || j.action.getLsbD i)) := by
  rw [joypadNibble, BitVec.getLsbD_and, getLsbD_latch _ _ i hi, getLsbD_latch _ _ i hi]

/-- P1 shows the nibble in its low bits (20_memory.md R114). -/
theorem getLsbD_readP1 (j : Joypad) (i : Nat) (hi : i < 4) : (readP1 j).getLsbD i = (joypadNibble j).getLsbD i := by
  interval_cases i <;> simp [readP1]

theorem memRead_p1 (s : State) : memRead s 0xFF00 = readP1 s.joypad := memRead_ioOffset s 0 (by decide)

/-- Settles O55: the actions are updates of the latches, and a press requests source 4; P1 is read bit by bit. -/
theorem joypadActions : Obligations.JoypadActions := by
  unfold Obligations.JoypadActions
  refine fun s btn i => ⟨rfl, rfl, rfl, rfl, fun hi => ?_⟩
  rw [memRead_p1, getLsbD_readP1 _ i hi, getLsbD_joypadNibble _ i hi]

end Sys2Proof.Machine
end

section
/-! SUPPORT. The dispatch of an interrupt (60_exceptions.md R504-R507): which source a CPU step takes, and the next
state. -/

namespace Sys2Proof.Machine

/-- A source below 5 is pending where its bit is set in both IE and IF (R504). -/
theorem getLsbD_pending (s : State) (k : Nat) (hk : k < 5) :
    (pending s).getLsbD k = (s.ieReg &&& s.ifReg).getLsbD k := by
  have mask : (0x1F : Byte).getLsbD k = true := by interval_cases k <;> rfl
  rw [pending, BitVec.getLsbD_and, mask, Bool.and_true]

theorem pending_ne_zero {s : State} {k : Nat} (h : (pending s).getLsbD k = true) : pending s ≠ 0 := by
  intro h0
  simp [h0] at h

/-- The lowest pending source is the one that is pending with none below it pending (R505). -/
theorem lowestPending_eq {s : State} {k : Nat} (isSet : (pending s).getLsbD k = true)
    (noneBelow : ∀ j < k, (pending s).getLsbD j = false) : lowestPending (pending s) = k := by
  have masked : pending s &&& 0x1F = pending s := by rw [pending, BitVec.and_assoc, BitVec.and_self]
  obtain ⟨-, isSet', noneBelow'⟩ := lowestPending_spec (pending s) (by rw [masked]; exact pending_ne_zero isSet)
  rcases Nat.lt_trichotomy (lowestPending (pending s)) k with h | h | h
  · exact absurd (noneBelow _ h) (by simp [isSet'])
  · exact h
  · exact absurd (noneBelow' k h) (by simp [isSet])

/-- The dispatch branch of the CPU step (R251). -/
theorem cpuStep_dispatch {s : State} (hl : s.cpu.locked = false) (hi : s.cpu.ime = true) (hp : pending s ≠ 0) :
    cpuStep s = .next (dispatch (s.setCpu { s.cpu with halted := false }) (lowestPending (pending s))) := by
  have taken : (s.cpu.ime && decide (pending s ≠ 0)) = true := by rw [hi, decide_eq_true hp]; rfl
  rw [cpuStep, if_neg (hl ▸ Bool.false_ne_true), if_pos taken, wake_of_running (.inr hp)]

/-- Dispatch clears `halted` itself, so it does not read it. -/
theorem dispatch_setHalted (s : State) (b : Bool) (k : Nat) :
    dispatch (s.setCpu { s.cpu with halted := b }) k = dispatch s k := rfl

/-- Settles O34: the step takes the lowest pending source (`lowestPending_eq`), with the writes of `dispatch_eq`. -/
theorem dispatchInterrupt : Obligations.DispatchInterrupt := by
  unfold Obligations.DispatchInterrupt
  intro s k hlocked hime hk isSet noneBelow
  rw [← getLsbD_pending s k hk] at isSet
  have low : lowestPending (pending s) = k :=
    lowestPending_eq isSet fun j hj => (getLsbD_pending s j (by omega)).trans (noneBelow j hj)
  rw [cpuStep_dispatch hlocked hime (pending_ne_zero isSet), low, dispatch_setHalted, dispatch_eq, one_shiftLeft_eq_ofNat,
    vector]

end Sys2Proof.Machine
end
